-- ==== Sys2Proof/Word.lean ====
section
/-! DEFINITION. The word types of the block (spec 00_scope.md R4, R5): every one is a plain bit vector,
bit 0 the least significant. -/

namespace Sys2Proof

/-- A packet byte (00_scope.md R5). -/
abbrev Byte := BitVec 8

/-- A 16-bit value: a table entry, the CRC register, a byte offset (00_scope.md R4 `TBL_W` and widths). -/
abbrev Half := BitVec 16

/-- A 17-bit byte count, so that 65536 can be named (10_state.md R22, R25). -/
abbrev Count := BitVec 17

/-- A 32-bit word: `VAL`, a command word, a register transaction's data (20_memory.md R50). -/
abbrev Word := BitVec 32

end Sys2Proof
end

