-- ==== Sys2Proof/Syntax.lean ====
section
/-! DEFINITION. The 24 commands of the block, one constructor per row of spec/opcode_table.json
(spec 30_encoding.md R70, R76). Operands are implicit registers (R79); the only variable field is `SEL`. -/

namespace Sys2Proof

/-- A command (30_encoding.md R76). -/
inductive Instr where
  /-- `TINIT`: build the CRC table (40_crc.md R105). -/
  | tinit
  /-- `CRC16`: CRC of a span (40_crc.md R106). -/
  | crc16
  /-- `CRCCMP`: compare `CRC` with `VAL[15:0]` (40_crc.md R107). -/
  | crccmp
  /-- `TBLRD`: read one table entry (40_crc.md R108). -/
  | tblrd
  /-- `CLRERR`: clear the sticky error (44_system.md R170). -/
  | clrerr
  /-- `GETB`: 1-byte field (41_extract.md R121). -/
  | getb
  /-- `GETH.T`: 2-byte field in target order (41_extract.md R122). -/
  | gethT
  /-- `GETH.LE`: 2-byte field, little-endian (41_extract.md R123). -/
  | gethLE
  /-- `GETH.BE`: 2-byte field, big-endian (41_extract.md R124). -/
  | gethBE
  /-- `GETW.T`: 4-byte field in target order (41_extract.md R125). -/
  | getwT
  /-- `GETW.LE`: 4-byte field, little-endian (41_extract.md R126). -/
  | getwLE
  /-- `GETW.BE`: 4-byte field, big-endian (41_extract.md R127). -/
  | getwBE
  /-- `GETSH.T`: sign-extended sample in target order (41_extract.md R128). -/
  | getshT
  /-- `GETSH.LE`: sign-extended, little-endian (41_extract.md R129). -/
  | getshLE
  /-- `GETSH.BE`: sign-extended, big-endian (41_extract.md R130). -/
  | getshBE
  /-- `GETIP.k`: four octets in the order of IP kind `k` (41_extract.md R131). -/
  | getip (k : BitVec 4)
  /-- `GETDIO.n`: digital I/O line `n` (41_extract.md R132). -/
  | getdio (n : BitVec 4)
  /-- `BSWAP16` (42_datapath.md R141). -/
  | bswap16
  /-- `BSWAP32` (42_datapath.md R142). -/
  | bswap32
  /-- `HSWAP` (42_datapath.md R143). -/
  | hswap
  /-- `PSWAP` (42_datapath.md R144). -/
  | pswap
  /-- `SEXT16` (42_datapath.md R145). -/
  | sext16
  /-- `M4SYNC`: mode-4 sync-word check (43_validate.md R161). -/
  | m4sync
  /-- `M4CRC`: mode-4 header CRC check (43_validate.md R162). -/
  | m4crc
  deriving DecidableEq, Repr

end Sys2Proof
end

