-- ==== Sys2Proof/Decode.lean ====
section
/-! DEFINITION. The decoder, total on 32-bit command words (spec 30_encoding.md R70 to R78, R82), the opcode
table's rows, and the encoder written from the same tables. -/

namespace Sys2Proof

/-- Why a word is illegal: one name per condition of 30_encoding.md R77. The names are the model's own; the
block reports the one code `ILLEGAL_CMD` for all of them. -/
inductive Illegal where
  /-- `w[31:16] != 0`. -/
  | reservedHigh
  /-- `w[11:10] != 0`. -/
  | reservedLow
  /-- `OPC` is not in the table of R76. -/
  | unassignedOpc
  /-- Format N with `ORD != 0` or `SEL != 0`. -/
  | modifierOnFormatN
  /-- Format O with `SEL != 0` or `ORD = 3`. -/
  | badFormatO
  /-- Format S with `ORD != 0`. -/
  | orderOnFormatS
  deriving DecidableEq, Repr

/-- What the decoder answers (30_encoding.md R82): a command, or `ILLEGAL` with its reason. -/
inductive Decoded where
  /-- One of the 24 commands. -/
  | instr (i : Instr)
  /-- `ILLEGAL`. -/
  | illegal (why : Illegal)
  deriving DecidableEq, Repr

/-- `OPC`, bits 7:0 (30_encoding.md R70). -/
def opcField (w : Word) : Byte := w.extractLsb' 0 8

/-- `ORD`, bits 9:8 (30_encoding.md R70). -/
def ordField (w : Word) : BitVec 2 := w.extractLsb' 8 2

/-- Reserved bits 11:10 (30_encoding.md R70). -/
def rsvdLoField (w : Word) : BitVec 2 := w.extractLsb' 10 2

/-- `SEL`, bits 15:12 (30_encoding.md R70). -/
def selField (w : Word) : BitVec 4 := w.extractLsb' 12 4

/-- Reserved bits 31:16 (30_encoding.md R70). -/
def rsvdHiField (w : Word) : Half := w.extractLsb' 16 16

/-- The format-N commands by `OPC` (30_encoding.md R71, R76). -/
def decodeN : Byte → Option Instr
  | 0x01#8 => some .tinit
  | 0x02#8 => some .crc16
  | 0x03#8 => some .crccmp
  | 0x04#8 => some .tblrd
  | 0x05#8 => some .clrerr
  | 0x10#8 => some .getb
  | 0x20#8 => some .bswap16
  | 0x21#8 => some .bswap32
  | 0x22#8 => some .hswap
  | 0x23#8 => some .pswap
  | 0x24#8 => some .sext16
  | 0x30#8 => some .m4sync
  | 0x31#8 => some .m4crc
  | _ => none

/-- Whether `OPC` is of format O (30_encoding.md R72). -/
def isFormatO (opc : Byte) : Bool := opc == 0x11#8 || opc == 0x12#8 || opc == 0x13#8

/-- The format-O commands by `OPC` and `ORD` (30_encoding.md R72, R74, R76); `ORD = 3` is no command. -/
def decodeO : Byte → BitVec 2 → Option Instr
  | 0x11#8, 0#2 => some .gethT
  | 0x11#8, 1#2 => some .gethLE
  | 0x11#8, 2#2 => some .gethBE
  | 0x12#8, 0#2 => some .getwT
  | 0x12#8, 1#2 => some .getwLE
  | 0x12#8, 2#2 => some .getwBE
  | 0x13#8, 0#2 => some .getshT
  | 0x13#8, 1#2 => some .getshLE
  | 0x13#8, 2#2 => some .getshBE
  | _, _ => none

/-- The format-S commands by `OPC` and `SEL` (30_encoding.md R73, R76). -/
def decodeS : Byte → BitVec 4 → Option Instr
  | 0x14#8, k => some (.getip k)
  | 0x15#8, n => some (.getdio n)
  | _, _ => none

/-- The decoder of 30_encoding.md R82. No state of the block is read by it. -/
def decode (w : Word) : Decoded :=
  if rsvdHiField w ≠ 0 then .illegal .reservedHigh
  else if rsvdLoField w ≠ 0 then .illegal .reservedLow
  else match decodeN (opcField w) with
    | some i => if ordField w = 0 ∧ selField w = 0 then .instr i else .illegal .modifierOnFormatN
    | none =>
      if isFormatO (opcField w) then
        match decodeO (opcField w) (ordField w) with
        | some i => if selField w = 0 then .instr i else .illegal .badFormatO
        | none => .illegal .badFormatO
      else match decodeS (opcField w) (selField w) with
        | some i => if ordField w = 0 then .instr i else .illegal .orderOnFormatS
        | none => .illegal .unassignedOpc

/-- A command word from its fields, reserved bits zero (30_encoding.md R70). -/
def commandWord (opc : Byte) (ord : BitVec 2) (sel : BitVec 4) : Word :=
  0#16 ++ (sel ++ (0#2 ++ (ord ++ opc)))

/-- The encoder: the command words of the table of 30_encoding.md R76. -/
def encode : Instr → Word
  | .tinit => commandWord 0x01 0 0
  | .crc16 => commandWord 0x02 0 0
  | .crccmp => commandWord 0x03 0 0
  | .tblrd => commandWord 0x04 0 0
  | .clrerr => commandWord 0x05 0 0
  | .getb => commandWord 0x10 0 0
  | .gethT => commandWord 0x11 0 0
  | .gethLE => commandWord 0x11 1 0
  | .gethBE => commandWord 0x11 2 0
  | .getwT => commandWord 0x12 0 0
  | .getwLE => commandWord 0x12 1 0
  | .getwBE => commandWord 0x12 2 0
  | .getshT => commandWord 0x13 0 0
  | .getshLE => commandWord 0x13 1 0
  | .getshBE => commandWord 0x13 2 0
  | .getip k => commandWord 0x14 0 k
  | .getdio n => commandWord 0x15 0 n
  | .bswap16 => commandWord 0x20 0 0
  | .bswap32 => commandWord 0x21 0 0
  | .hswap => commandWord 0x22 0 0
  | .pswap => commandWord 0x23 0 0
  | .sext16 => commandWord 0x24 0 0
  | .m4sync => commandWord 0x30 0 0
  | .m4crc => commandWord 0x31 0 0

/-- A row of spec/opcode_table.json: its mnemonic, match and mask. -/
structure OpRow where
  mnemonic : String
  bits : Word
  mask : Word
  deriving DecidableEq, Repr

/-- The row of a command in spec/opcode_table.json (30_encoding.md R82, "Equivalently"). -/
def opRow : Instr → OpRow
  | .tinit => ⟨"TINIT", 0x00000001, 0xFFFFFFFF⟩
  | .crc16 => ⟨"CRC16", 0x00000002, 0xFFFFFFFF⟩
  | .crccmp => ⟨"CRCCMP", 0x00000003, 0xFFFFFFFF⟩
  | .tblrd => ⟨"TBLRD", 0x00000004, 0xFFFFFFFF⟩
  | .clrerr => ⟨"CLRERR", 0x00000005, 0xFFFFFFFF⟩
  | .getb => ⟨"GETB", 0x00000010, 0xFFFFFFFF⟩
  | .gethT => ⟨"GETH.T", 0x00000011, 0xFFFFFFFF⟩
  | .gethLE => ⟨"GETH.LE", 0x00000111, 0xFFFFFFFF⟩
  | .gethBE => ⟨"GETH.BE", 0x00000211, 0xFFFFFFFF⟩
  | .getwT => ⟨"GETW.T", 0x00000012, 0xFFFFFFFF⟩
  | .getwLE => ⟨"GETW.LE", 0x00000112, 0xFFFFFFFF⟩
  | .getwBE => ⟨"GETW.BE", 0x00000212, 0xFFFFFFFF⟩
  | .getshT => ⟨"GETSH.T", 0x00000013, 0xFFFFFFFF⟩
  | .getshLE => ⟨"GETSH.LE", 0x00000113, 0xFFFFFFFF⟩
  | .getshBE => ⟨"GETSH.BE", 0x00000213, 0xFFFFFFFF⟩
  | .getip _ => ⟨"GETIP.k", 0x00000014, 0xFFFF0FFF⟩
  | .getdio _ => ⟨"GETDIO.n", 0x00000015, 0xFFFF0FFF⟩
  | .bswap16 => ⟨"BSWAP16", 0x00000020, 0xFFFFFFFF⟩
  | .bswap32 => ⟨"BSWAP32", 0x00000021, 0xFFFFFFFF⟩
  | .hswap => ⟨"HSWAP", 0x00000022, 0xFFFFFFFF⟩
  | .pswap => ⟨"PSWAP", 0x00000023, 0xFFFFFFFF⟩
  | .sext16 => ⟨"SEXT16", 0x00000024, 0xFFFFFFFF⟩
  | .m4sync => ⟨"M4SYNC", 0x00000030, 0xFFFFFFFF⟩
  | .m4crc => ⟨"M4CRC", 0x00000031, 0xFFFFFFFF⟩

/-- The command words numbered as spec/opcode_table.json numbers them. A command word is one 32-bit number
delivered whole (20_memory.md R66), so no byte order enters; bits at and above `nbits` are zero
(log entry 8). -/
def tableWord (nbits w : Nat) : Word := BitVec.ofNat 32 (w % 2 ^ nbits)

/-- The command the decoder reads from a table word; `none` where it answers `ILLEGAL`. -/
def decodeTableWord (nbits w : Nat) : Option Instr :=
  match decode (tableWord nbits w) with
  | .instr i => some i
  | .illegal _ => none

end Sys2Proof
end

