-- ==== Sys2Proof/Config.lean ====
section
/-! DEFINITION. The parameters of the block (spec 00_scope.md R4): the constants the spec fixes, the `OPEN`
parameters and the strap as opaque constants (nothing can be proved of their values), and the one free value. -/

namespace Sys2Proof

/-- `PKT_CAP` (00_scope.md R4): capacity of the packet buffer in bytes. -/
abbrev pktCap : Nat := 65536

/-- `TBL_N` (00_scope.md R4): entries of the CRC table. -/
abbrev tblSize : Nat := 256

/-- `M4_HDR_LEN` (00_scope.md R4): bytes of a mode-4 header. -/
abbrev m4HdrLen : Nat := 64

/-- `M4_SYNC_LEN` (00_scope.md R4): bytes of the mode-4 sync word. -/
abbrev m4SyncLen : Nat := 4

/-- `M4_SYNC_OFF` (00_scope.md R4): offset of the sync word in the header. -/
abbrev m4SyncOff : Nat := m4HdrLen - m4SyncLen

/-- `M4_CRC_SPAN` (00_scope.md R4): bytes covered by the mode-4 CRC. -/
abbrev m4CrcSpan : Nat := 8

/-- `N_IPKIND` (00_scope.md R4): kinds of IP address. -/
abbrev nIpKind : Nat := 4

/-- The four sync bytes `M4_SYNC[0..3]` in buffer order (00_scope.md R4). -/
structure SyncWord where
  b0 : Byte
  b1 : Byte
  b2 : Byte
  b3 : Byte
  deriving DecidableEq, Repr, Inhabited

/-- The `OPEN` parameters in one value (00_scope.md R4). The shared operations take it as an argument, so that
both test profiles of 95_test_vectors.md section 1 can be given to them. -/
structure Params where
  /-- `CRC16_POLY`, in reflected form (40_crc.md R100). -/
  crc16Poly : Half
  /-- `CRC16_INIT`. -/
  crc16Init : Half
  /-- `M4_SYNC[0..3]`. -/
  m4Sync : SyncWord
  /-- `M4_CRC_OFF`, `0 <= M4_CRC_OFF <= 62`. -/
  m4CrcOff : Fin 63
  deriving DecidableEq, Repr, Inhabited

/-- `CRC16_POLY`, `OPEN` (00_scope.md R4; log entry 1). -/
opaque Config.crc16Poly : Half

/-- `CRC16_INIT`, `OPEN` (00_scope.md R4; log entry 1). -/
opaque Config.crc16Init : Half

/-- `M4_SYNC[0..3]`, `OPEN` (00_scope.md R4; log entry 1). -/
opaque Config.m4Sync : SyncWord

/-- `M4_CRC_OFF`, `OPEN` (00_scope.md R4; log entry 1). -/
opaque Config.m4CrcOff : Fin 63

/-- `TBO_STRAP` (00_scope.md R4): `true` is the big-endian target (log entry 2). -/
opaque Config.tboStrap : Bool

/-- FREE VALUE: the byte at an offset of `PKT` that the host has not written since the reset numbered by the
first argument (10_state.md R31, R36; 93_implementation_defined.md U2; log entry 3). -/
opaque Config.unwrittenByte : Nat → Nat → Byte

/-- The block's own `OPEN` parameters. -/
def Config.params : Params where
  crc16Poly := Config.crc16Poly
  crc16Init := Config.crc16Init
  m4Sync := Config.m4Sync
  m4CrcOff := Config.m4CrcOff

end Sys2Proof
end

