-- ==== Sys2Proof/Machine/Port.lean ====
section
/-! DEFINITION. What passes over the host port: the registers the host addresses (spec 10_state.md R26), the five
host transactions (20_memory.md R51, R53; 70_reset_and_hazards.md R220), the flat bus accesses that carry them
(20_memory.md R59), and what a read returns. Types only; they act in Transactions.lean. -/

namespace Sys2Proof.Machine

/-- The registers by name (10_state.md R26); their numbers are `Reg.number`. -/
inductive Reg where
  /-- Register 0: a write executes a command, a read returns 0 (R34). -/
  | cmd
  /-- Register 1, read only (R29). -/
  | status
  /-- Register 2, read only (R30). -/
  | cfg
  /-- Register 3 (R21). -/
  | off
  /-- Register 4 (R22). -/
  | len
  /-- Register 5 (R25). -/
  | plen
  /-- Register 6 (R23). -/
  | val
  /-- Register 7, read only (R24). -/
  | crc
  deriving DecidableEq, Repr

/-- The width of an access in the flat bus binding (20_memory.md R59). -/
inductive BusWidth where
  /-- One byte. -/
  | byte
  /-- Two bytes. -/
  | half
  /-- Four bytes. -/
  | word
  deriving DecidableEq, Repr

/-- An access of the flat bus binding, byte addresses `0x00000 .. 0x1FFFF` (20_memory.md R59; log entry 9). -/
inductive BusAccess where
  /-- A read. -/
  | read (addr : Count) (width : BusWidth)
  /-- A write; a byte access writes `data[7:0]`. -/
  | write (addr : Count) (width : BusWidth) (data : Word)
  deriving DecidableEq, Repr

/-- A host transaction (00_scope.md glossary; 20_memory.md R51, R53; 70_reset_and_hazards.md R220). -/
inductive Transaction where
  /-- `HReset`. -/
  | reset
  /-- `HPktWrite(a, v)`. -/
  | pktWrite (a : Half) (v : Byte)
  /-- `HPktRead(a)`. -/
  | pktRead (a : Half)
  /-- `HRegWrite(r, w)`. -/
  | regWrite (r : Reg) (w : Word)
  /-- `HRegRead(r)`. -/
  | regRead (r : Reg)
  /-- A flat bus access that carries one of the four above (20_memory.md R59). -/
  | bus (acc : BusAccess)
  deriving DecidableEq, Repr

/-- What a read transaction returned to the host (70_reset_and_hazards.md R232). -/
inductive Response where
  /-- The byte of an `HPktRead`. -/
  | byte (v : Byte)
  /-- The word of an `HRegRead`. -/
  | word (w : Word)
  deriving DecidableEq, Repr

end Sys2Proof.Machine
end

