-- ==== Sys2Proof/Machine/State.lean ====
section
/-! DEFINITION. The state of the block (spec 10_state.md section 1), the reasons a step can stop, and the state
after reset (10_state.md R36). -/

namespace Sys2Proof.Machine

/-- The packet bytes the host has written since reset, as (offset, byte) pairs with rising offsets
(10_state.md R31; `Memory.wf` in Ops.lean; log entry 3). -/
abbrev Memory := List Host.Cell

/-- A result code, the field `RC` of `STATUS` (60_exceptions.md R201). Codes 5, 6 and 7 never occur, so they
have no constructor (93_implementation_defined.md U8). -/
inductive ResultCode where
  /-- 0. -/
  | ok
  /-- 1: a comparing command found a mismatch; a verdict, not an error. -/
  | corrupt
  /-- 2: a span or a table index out of bounds. -/
  | invalidInput
  /-- 3: `GETIP.k` with `k >= 4`. -/
  | unknownSelector
  /-- 4: an illegal command word. -/
  | illegalCmd
  deriving DecidableEq, Repr

/-- The state of the block. Every field but the last three is the spec's (10_state.md section 1). -/
structure State where
  /-- `PKT` (10_state.md R31). -/
  pkt : Memory
  /-- `PLEN`, register 5 (10_state.md R25). -/
  plen : Count
  /-- `OFF`, register 3 (10_state.md R21). -/
  off : Half
  /-- `LEN`, register 4 (10_state.md R22). -/
  len : Count
  /-- `VAL`, register 6 (10_state.md R23). -/
  val : Word
  /-- `CRC`, register 7 (10_state.md R24). -/
  crc : Half
  /-- `TBL[0..255]` (10_state.md R32). -/
  tbl : Vector Half 256
  /-- `TV`, `STATUS[0]` (10_state.md R33). -/
  tv : Bool
  /-- `MATCH`, `STATUS[1]` (10_state.md R28). -/
  matched : Bool
  /-- `ES`, `STATUS[2]` (10_state.md R29). -/
  es : Bool
  /-- `RC`, `STATUS[6:4]` (10_state.md R29). -/
  rc : ResultCode
  /-- `TBO`, `CFG[0]`: `true` is the big-endian target (10_state.md R30). -/
  tbo : Bool
  /-- MODEL'S OWN: the host's transactions not served yet, oldest first (00_scope.md R10, R11; log entry 5). -/
  port : List Transaction
  /-- MODEL'S OWN: what the host has read, newest first (70_reset_and_hazards.md R232; log entry 6). -/
  reads : List Response
  /-- MODEL'S OWN: how many `HReset` were served; numbers the unspecified contents of `PKT` (log entry 7). -/
  resets : Nat
  deriving DecidableEq, Repr

/-- Why the machine stops with a fault. The block itself takes no trap and never stops (60_exceptions.md R200,
70_reset_and_hazards.md R231). -/
inductive Fault where
  /-- Raised by `State.readSpan` (MemRead) when it is called for a span that the bounds rule refuses
  (00_scope.md R6: "It is only ever called after the bounds rule R9 has passed"). No meaning does so. Safe:
  the model stops where the spec says the block never is (log entry 10). -/
  | readOutOfBounds
  deriving DecidableEq, Repr

/-- Why the machine refuses a step. -/
inductive Refusal where
  /-- An instruction without a meaning. Raised by no arm of `exec`: every command is modelled. Safe. -/
  | notModelled (mnemonic : String)
  /-- Raised by a flat bus access that 20_memory.md R59 does not support: "a model refuses it"
  (93_implementation_defined.md U10; log entry 9). Safe. -/
  | unsupportedBusAccess
  deriving DecidableEq, Repr

/-- The outcome of a meaning. -/
abbrev Result := Host.Outcome State Fault Refusal

/-- The state right after reset (10_state.md R36, 70_reset_and_hazards.md R220). `TBL` is unspecified there and
unreadable while `TV = 0`; its zeros are the model's (log entry 4). -/
def State.reset : State where
  pkt := []
  plen := 0
  off := 0
  len := 0
  val := 0
  crc := 0
  tbl := Vector.replicate 256 0
  tv := false
  matched := false
  es := false
  rc := .ok
  tbo := Config.tboStrap
  port := []
  reads := []
  resets := 0

end Sys2Proof.Machine
end

