-- ==== Sys2Proof/Machine/Flags.lean ====
section
/-! DEFINITION. Result codes and the words of `STATUS` and `CFG` (spec 10_state.md R29, R30;
60_exceptions.md R201). -/

namespace Sys2Proof.Machine

/-- The number of a result code (60_exceptions.md R201). -/
def ResultCode.code : ResultCode → BitVec 3
  | .ok => 0
  | .corrupt => 1
  | .invalidInput => 2
  | .unknownSelector => 3
  | .illegalCmd => 4

/-- `code >= 2`: a failure (00_scope.md R6). `CORRUPT` is a verdict (60_exceptions.md R208). -/
def ResultCode.isError : ResultCode → Bool
  | .ok => false
  | .corrupt => false
  | .invalidInput => true
  | .unknownSelector => true
  | .illegalCmd => true

/-- The result code of a comparison (60_exceptions.md R201). -/
def ResultCode.ofVerdict (equal : Bool) : ResultCode := if equal then .ok else .corrupt

/-- `STATUS`: `TV | MATCH<<1 | ES<<2 | RC<<4`, all else 0 (10_state.md R29). -/
def State.statusWord (s : State) : Word :=
  0#25 ++ (s.rc.code ++ (0#1 ++ (BitVec.ofBool s.es ++ (BitVec.ofBool s.matched ++ BitVec.ofBool s.tv))))

/-- `CFG`: bit 0 is `TBO`, all else 0 (10_state.md R30). -/
def State.cfgWord (s : State) : Word := 0#31 ++ BitVec.ofBool s.tbo

end Sys2Proof.Machine
end

