-- ==== Sys2Proof/Machine/Operands.lean ====
section
/-! DEFINITION. Byte assembly, extension, the byte permutations and the CRC functions: everything the block
computes from bytes and words, without state (spec 00_scope.md R7, R8; 40_crc.md R100 to R103;
42_datapath.md R141 to R145). -/

namespace Sys2Proof.Machine

/-- A byte order (00_scope.md R7). -/
inductive ByteOrder where
  /-- `LE`: least significant byte at the lowest offset. -/
  | le
  /-- `BE`: most significant byte at the lowest offset. -/
  | be
  deriving DecidableEq, Repr

/-- `b[j]` of a list of bytes that `MemRead` returned (00_scope.md R6). -/
def byteAt (b : List Byte) (j : Nat) : Byte := b.getD j 0

/-- `asm16(b, ord)` (00_scope.md R7). -/
def asm16 (ord : ByteOrder) (b : List Byte) : Half :=
  match ord with
  | .le => ((byteAt b 1).setWidth 16 <<< 8) ||| (byteAt b 0).setWidth 16
  | .be => ((byteAt b 0).setWidth 16 <<< 8) ||| (byteAt b 1).setWidth 16

/-- `asm32(b, ord)` (00_scope.md R7). -/
def asm32 (ord : ByteOrder) (b : List Byte) : Word :=
  match ord with
  | .le => ((byteAt b 3).setWidth 32 <<< 24) ||| ((byteAt b 2).setWidth 32 <<< 16)
      ||| ((byteAt b 1).setWidth 32 <<< 8) ||| (byteAt b 0).setWidth 32
  | .be => ((byteAt b 0).setWidth 32 <<< 24) ||| ((byteAt b 1).setWidth 32 <<< 16)
      ||| ((byteAt b 2).setWidth 32 <<< 8) ||| (byteAt b 3).setWidth 32

/-- The 2-byte assembly in target order, with its two paths (41_extract.md R122): the big-endian target adds the
two bytes explicitly, the little-endian target reads them natively. They agree (20_memory.md R55). -/
def asm16Target (tbo : Bool) (b : List Byte) : Half :=
  if tbo then ((byteAt b 1).setWidth 16 <<< 8) + (byteAt b 0).setWidth 16
  else asm16 .le b

/-- `zext32` of a byte (00_scope.md R8). -/
def zext32Byte (v : Byte) : Word := v.setWidth 32

/-- `zext32` of a 16-bit value (00_scope.md R8). -/
def zext32Half (v : Half) : Word := v.setWidth 32

/-- `sext32_16` (00_scope.md R8). -/
def sext32Half (v : Half) : Word := v.signExtend 32

/-- `VAL[15:0]` (00_scope.md R5). -/
def lowHalf (w : Word) : Half := w.extractLsb' 0 16

/-- `BSWAP16` on a word (42_datapath.md R141): `{B3, B2, B0, B1}`. -/
def bswap16 (w : Word) : Word :=
  w.extractLsb' 24 8 ++ (w.extractLsb' 16 8 ++ (w.extractLsb' 0 8 ++ w.extractLsb' 8 8))

/-- `BSWAP32` on a word (42_datapath.md R142): `{B0, B1, B2, B3}`. -/
def bswap32 (w : Word) : Word :=
  w.extractLsb' 0 8 ++ (w.extractLsb' 8 8 ++ (w.extractLsb' 16 8 ++ w.extractLsb' 24 8))

/-- `HSWAP` on a word (42_datapath.md R143): `{B1, B0, B3, B2}`. -/
def hswap (w : Word) : Word :=
  w.extractLsb' 8 8 ++ (w.extractLsb' 0 8 ++ (w.extractLsb' 24 8 ++ w.extractLsb' 16 8))

/-- `PSWAP` on a word (42_datapath.md R144): `{B2, B3, B0, B1}`. -/
def pswap (w : Word) : Word :=
  w.extractLsb' 16 8 ++ (w.extractLsb' 24 8 ++ (w.extractLsb' 0 8 ++ w.extractLsb' 8 8))

/-- `SEXT16` on a word (42_datapath.md R145). -/
def sext16 (w : Word) : Word := sext32Half (lowHalf w)

/-- The four octets of an IP address in the order of kind `k`, first reported octet on top
(41_extract.md R131): natural for the device and NTP kinds, `(1, 0, 3, 2)` for the two TCP kinds. -/
def ipOctets (k : BitVec 4) (b : List Byte) : Word :=
  if k = 0 ∨ k = 1 then byteAt b 0 ++ (byteAt b 1 ++ (byteAt b 2 ++ byteAt b 3))
  else byteAt b 1 ++ (byteAt b 0 ++ (byteAt b 3 ++ byteAt b 2))

/-- Digital I/O line `n`: bit `n mod 8` of byte `n div 8` (41_extract.md R132). -/
def dioLine (n : BitVec 4) (b : List Byte) : Word :=
  zext32Byte ((byteAt b (n >>> 3).toNat >>> (n &&& 7).toNat) &&& 1)

/-- One shift-and-XOR step of the reflected construction (40_crc.md R100). -/
def tblentStep (poly r : Half) : Half :=
  if r.getLsbD 0 then (r >>> 1) ^^^ poly else r >>> 1

/-- `n` steps of the construction (40_crc.md R100). -/
def tblentSteps (poly : Half) : Nat → Half → Half
  | 0, r => r
  | n + 1, r => tblentSteps poly n (tblentStep poly r)

/-- `tblent(i)` (40_crc.md R100): eight steps from `i`. -/
def tblent (poly : Half) (i : Nat) : Half := tblentSteps poly 8 (BitVec.ofNat 16 i)

/-- The built table (40_crc.md R104). Irreducible, so that no elaboration compares its 256 entries by accident;
`crcTable_getElem` in Laws reads an entry. -/
@[irreducible] def crcTable (poly : Half) : Vector Half 256 := Vector.ofFn fun i => tblent poly i.val

/-- `TBL[i]` for an 8-bit index (00_scope.md R6). -/
def tblAt (tbl : Vector Half 256) (i : Byte) : Half := tbl[i.toNat]'i.isLt

/-- `crcstep(r, v)` (40_crc.md R101). -/
def crcStep (tbl : Vector Half 256) (r : Half) (v : Byte) : Half :=
  (r >>> 8) ^^^ tblAt tbl (((r ^^^ v.setWidth 16) &&& 0x00FF#16).setWidth 8)

/-- `crcspan` over the bytes of the span in ascending order (40_crc.md R102). Nothing is applied after the last
byte (R103). -/
def crcSpan (tbl : Vector Half 256) (init : Half) (bytes : List Byte) : Half :=
  bytes.foldl (crcStep tbl) init

/-- The sync comparison, byte by byte in buffer order (43_validate.md R161). -/
def syncMatches (sync : SyncWord) (b : List Byte) : Bool :=
  byteAt b 0 == sync.b0 && byteAt b 1 == sync.b1 && byteAt b 2 == sync.b2 && byteAt b 3 == sync.b3

end Sys2Proof.Machine
end

