-- ==== Sys2Proof/Machine/Ops.lean ====
section
/-! DEFINITION. The named operations over memory and registers that every meaning is built from
(spec 00_scope.md R6, R9; 10_state.md R26; 20_memory.md R51; 40_crc.md R104; 60_exceptions.md R204). -/

namespace Sys2Proof.Machine

/-! ## The packet memory -/

/-- The byte written at an offset, `none` where nothing has been written since reset. -/
def Memory.get? : Memory → Nat → Option Byte
  | [], _ => none
  | (b, v) :: rest, a => if a = b then some v else Memory.get? rest a

/-- Write one byte, keeping the offsets rising. -/
def Memory.set : Memory → Nat → Byte → Memory
  | [], a, v => [(a, v)]
  | (b, w) :: rest, a, v =>
    if a < b then (a, v) :: (b, w) :: rest
    else if a = b then (a, v) :: rest
    else (b, w) :: Memory.set rest a v

/-- The canonical form: offsets strictly rising and inside the buffer. An unlisted offset holds no written
byte, so no entry equals what an unlisted one stands for (log entry 3). -/
abbrev Memory.wf (m : Memory) : Prop :=
  m.Pairwise (fun x y => x.1 < y.1) ∧ ∀ c ∈ m, c.1 < pktCap

/-- `PKT[a]`: the byte written there, or the free value of an unwritten byte (10_state.md R31;
93_implementation_defined.md U2). -/
def State.pktByte (s : State) (a : Nat) : Byte :=
  (s.pkt.get? a).getD (Config.unwrittenByte s.resets a)

/-- `MemWrite(a, 1, v)` (00_scope.md R6); only `HPktWrite` performs it. -/
def State.memWrite (s : State) (a : Half) (v : Byte) : State := { s with pkt := s.pkt.set a.toNat v }

/-! ## The bounds rule and reads -/

/-- `inb(o, n)`: `o + n <= PLEN and PLEN <= PKT_CAP` on unbounded integers (00_scope.md R9). -/
def State.inb (s : State) (o n : Nat) : Bool := decide (o + n ≤ s.plen.toNat ∧ s.plen.toNat ≤ pktCap)

/-- The bytes `PKT[a], ..., PKT[a+n-1]` in ascending order (00_scope.md R6). -/
def State.pktBytes (s : State) (a n : Nat) : List Byte := (List.range n).map fun j => s.pktByte (a + j)

/-- `MemRead(a, n)`, continued with its bytes (00_scope.md R6). "It is only ever called after the bounds rule R9
has passed": a call for a span the rule refuses would be the model's fault (log entry 10). -/
def State.readSpan (s : State) (a n : Nat) (k : List Byte → Result) : Result :=
  if n = 0 ∨ s.inb a n = true then k (s.pktBytes a n) else .fault .readOutOfBounds

/-! ## Registers -/

/-- `VAL <- v`. -/
def State.setVal (s : State) (v : Word) : State := { s with val := v }

/-- `CRC <- v`. -/
def State.setCrc (s : State) (v : Half) : State := { s with crc := v }

/-- A host write of `OFF` keeps bits 15:0 (10_state.md R21). -/
def State.setOff (s : State) (w : Word) : State := { s with off := w.setWidth 16 }

/-- A host write of `LEN` keeps bits 16:0 (10_state.md R22). -/
def State.setLen (s : State) (w : Word) : State := { s with len := w.setWidth 17 }

/-- A host write of `PLEN` keeps bits 16:0 (10_state.md R25). -/
def State.setPlen (s : State) (w : Word) : State := { s with plen := w.setWidth 17 }

/-- The number of a register (10_state.md R26). -/
def Reg.number : Reg → BitVec 3
  | .cmd => 0
  | .status => 1
  | .cfg => 2
  | .off => 3
  | .len => 4
  | .plen => 5
  | .val => 6
  | .crc => 7

/-- The register of a number (10_state.md R26, R35). -/
def Reg.ofNumber (n : BitVec 3) : Reg :=
  if n = 0 then .cmd else if n = 1 then .status else if n = 2 then .cfg else if n = 3 then .off
  else if n = 4 then .len else if n = 5 then .plen else if n = 6 then .val else .crc

/-- What `HRegRead(r)` returns: the register zero-extended, 0 for `CMD` (20_memory.md R53, 10_state.md R26). -/
def State.readReg (s : State) : Reg → Word
  | .cmd => 0
  | .status => s.statusWord
  | .cfg => s.cfgWord
  | .off => s.off.setWidth 32
  | .len => s.len.setWidth 32
  | .plen => s.plen.setWidth 32
  | .val => s.val
  | .crc => s.crc.setWidth 32

/-- What a read returned, kept for the host (70_reset_and_hazards.md R232; log entry 6). -/
def State.respond (s : State) (r : Response) : State := { s with reads := r :: s.reads }

/-! ## How a command ends -/

/-- `done()` (00_scope.md R6). -/
def State.done (s : State) : State := { s with rc := .ok }

/-- `fail(code)`, the block's only exception primitive (00_scope.md R6, 60_exceptions.md R204):
`RC <- code; if code >= 2 then ES <- 1`, nothing else. There is no trap entry and no return (R200, R205). -/
def State.fail (s : State) (code : ResultCode) : State := { s with rc := code, es := s.es || code.isError }

/-- The end of a comparing command (10_state.md R28, 60_exceptions.md R208): `MATCH` and `RC`, never `ES`. -/
def State.verdict (s : State) (equal : Bool) : State :=
  { s with matched := equal, rc := ResultCode.ofVerdict equal }

/-- `ES <- 0` (44_system.md R170). -/
def State.clearSticky (s : State) : State := { s with es := false }

/-! ## The table -/

/-- `build()` (40_crc.md R104): the whole table in one step (93_implementation_defined.md U4). -/
def State.build (p : Params) (s : State) : State := { s with tbl := crcTable p.crc16Poly, tv := true }

/-- The lazy build: `if TV = 0 then build()` (40_crc.md R104, R106). -/
def State.ensureTable (p : Params) (s : State) : State := if s.tv then s else s.build p

/-! ## Reset -/

/-- `HReset` (70_reset_and_hazards.md R220): every piece of the block's state at its reset value. The host's
script and record are the host's; the count gives the unwritten bytes new unspecified values (log entry 7). -/
def State.hReset (s : State) : State :=
  { State.reset with port := s.port, reads := s.reads, resets := s.resets + 1 }

end Sys2Proof.Machine
end

