-- ==== Sys2Proof/Machine/Crc.lean ====
section
/-! DEFINITION. The CRC family: `TINIT`, `CRC16`, `CRCCMP`, `TBLRD` (spec 40_crc.md R105 to R108). -/

namespace Sys2Proof.Machine

/-- The order of work of `CRC16` for any parameters (40_crc.md R106): bounds, then build, then fold. -/
def crc16With (p : Params) (s : State) : Result :=
  if 0 < s.len.toNat ∧ s.inb s.off.toNat s.len.toNat = false then .next (s.fail .invalidInput)
  else s.readSpan s.off.toNat s.len.toNat fun bytes =>
    let u := s.ensureTable p
    .next ((u.setCrc (crcSpan u.tbl p.crc16Init bytes)).done)

/-- `TBLRD` for any parameters (40_crc.md R108): index check, then build, then read. -/
def tblrdWith (p : Params) (s : State) : Result :=
  if 255 < s.off.toNat then .next (s.fail .invalidInput)
  else
    let u := s.ensureTable p
    .next ((u.setVal (zext32Half (tblAt u.tbl (u.off.setWidth 8)))).done)

/-- `TINIT` (40_crc.md R105). -/
def execTinit (s : State) : Result := .next ((s.build Config.params).done)

/-- `CRC16` (40_crc.md R106). -/
def execCrc16 (s : State) : Result := crc16With Config.params s

/-- `CRCCMP` (40_crc.md R107). -/
def execCrccmp (s : State) : Result := .next (s.verdict (s.crc == lowHalf s.val))

/-- `TBLRD` (40_crc.md R108). -/
def execTblrd (s : State) : Result := tblrdWith Config.params s

end Sys2Proof.Machine
end

