-- ==== Sys2Proof/Machine/Datapath.lean ====
section
/-! DEFINITION. The datapath family (spec 42_datapath.md R140 to R145). -/

namespace Sys2Proof.Machine

/-- What all datapath commands share (42_datapath.md R140): the whole old `VAL` in, `VAL` and `RC <- 0` out. -/
def onVal (f : Word → Word) (s : State) : Result := .next ((s.setVal (f s.val)).done)

/-- `BSWAP16` (42_datapath.md R141). -/
def execBswap16 (s : State) : Result := onVal bswap16 s

/-- `BSWAP32` (42_datapath.md R142). -/
def execBswap32 (s : State) : Result := onVal bswap32 s

/-- `HSWAP` (42_datapath.md R143). -/
def execHswap (s : State) : Result := onVal hswap s

/-- `PSWAP` (42_datapath.md R144). -/
def execPswap (s : State) : Result := onVal pswap s

/-- `SEXT16` (42_datapath.md R145). -/
def execSext16 (s : State) : Result := onVal sext16 s

end Sys2Proof.Machine
end

