-- ==== Sys2Proof/Machine/Extract.lean ====
section
/-! DEFINITION. The extract family (spec 41_extract.md R120 to R132). -/

namespace Sys2Proof.Machine

/-- What all extract commands share (41_extract.md R120): bounds check of the `n` bytes at `OFF`, `MemRead`,
assembly, `VAL <- result`, `done()`. -/
def extract (n : Nat) (assemble : List Byte → Word) (s : State) : Result :=
  if s.inb s.off.toNat n = true then
    s.readSpan s.off.toNat n fun b => .next ((s.setVal (assemble b)).done)
  else .next (s.fail .invalidInput)

/-- `GETB` (41_extract.md R121). -/
def execGetb (s : State) : Result := extract 1 (fun b => zext32Byte (byteAt b 0)) s

/-- `GETH.T` (41_extract.md R122). -/
def execGethT (s : State) : Result := extract 2 (fun b => zext32Half (asm16Target s.tbo b)) s

/-- `GETH.LE` (41_extract.md R123). -/
def execGethLE (s : State) : Result := extract 2 (fun b => zext32Half (asm16 .le b)) s

/-- `GETH.BE` (41_extract.md R124). -/
def execGethBE (s : State) : Result := extract 2 (fun b => zext32Half (asm16 .be b)) s

/-- `GETW.T` (41_extract.md R125): little-endian for both values of `TBO`. -/
def execGetwT (s : State) : Result := extract 4 (fun b => asm32 .le b) s

/-- `GETW.LE` (41_extract.md R126). -/
def execGetwLE (s : State) : Result := extract 4 (fun b => asm32 .le b) s

/-- `GETW.BE` (41_extract.md R127). -/
def execGetwBE (s : State) : Result := extract 4 (fun b => asm32 .be b) s

/-- `GETSH.T` (41_extract.md R128): little-endian for both values of `TBO`. -/
def execGetshT (s : State) : Result := extract 2 (fun b => sext32Half (asm16 .le b)) s

/-- `GETSH.LE` (41_extract.md R129). -/
def execGetshLE (s : State) : Result := extract 2 (fun b => sext32Half (asm16 .le b)) s

/-- `GETSH.BE` (41_extract.md R130). -/
def execGetshBE (s : State) : Result := extract 2 (fun b => sext32Half (asm16 .be b)) s

/-- `GETIP.k` (41_extract.md R131): the selector is checked before the bounds (60_exceptions.md R203). -/
def execGetip (k : BitVec 4) (s : State) : Result :=
  if nIpKind ≤ k.toNat then .next (s.fail .unknownSelector) else extract 4 (ipOctets k) s

/-- `GETDIO.n` (41_extract.md R132). -/
def execGetdio (n : BitVec 4) (s : State) : Result := extract 2 (dioLine n) s

end Sys2Proof.Machine
end

