-- ==== Sys2Proof/Machine/System.lean ====
section
/-! DEFINITION. The system family: `CLRERR` (spec 44_system.md R170). -/

namespace Sys2Proof.Machine

/-- `CLRERR` (44_system.md R170): `ES <- 0`, `done()`. -/
def execClrerr (s : State) : Result := .next (s.clearSticky.done)

end Sys2Proof.Machine
end

