-- ==== Sys2Proof/Machine/Validate.lean ====
section
/-! DEFINITION. The validator family: `M4SYNC`, `M4CRC` (spec 43_validate.md R160 to R162). -/

namespace Sys2Proof.Machine

/-- `M4SYNC` for any parameters (43_validate.md R161). -/
def m4syncWith (p : Params) (s : State) : Result :=
  if s.inb s.off.toNat m4HdrLen = true then
    s.readSpan (s.off.toNat + m4SyncOff) m4SyncLen fun b => .next (s.verdict (syncMatches p.m4Sync b))
  else .next (s.fail .invalidInput)

/-- `M4CRC` for any parameters (43_validate.md R162): bounds of the whole header, build, CRC of the 8-byte span,
the embedded field little-endian, `CRC` and `VAL`, verdict. -/
def m4crcWith (p : Params) (s : State) : Result :=
  if s.inb s.off.toNat m4HdrLen = true then
    s.readSpan s.off.toNat m4CrcSpan fun bytes =>
      s.readSpan (s.off.toNat + p.m4CrcOff.val) 2 fun b =>
        let u := s.ensureTable p
        let c := crcSpan u.tbl p.crc16Init bytes
        let f := asm16 .le b
        .next (((u.setCrc c).setVal (zext32Half f)).verdict (c == f))
  else .next (s.fail .invalidInput)

/-- `M4SYNC` (43_validate.md R161). -/
def execM4sync (s : State) : Result := m4syncWith Config.params s

/-- `M4CRC` (43_validate.md R162). -/
def execM4crc (s : State) : Result := m4crcWith Config.params s

end Sys2Proof.Machine
end

