-- ==== Sys2Proof/Machine/Dispatch.lean ====
section
/-! DEFINITION. One arm per command, each one call of its meaning (spec 30_encoding.md R76). -/

namespace Sys2Proof.Machine

def exec (i : Instr) (s : State) : Host.Outcome State Fault Refusal :=
  match i with
  | .tinit => Sys2Proof.Machine.execTinit s
  | .crc16 => Sys2Proof.Machine.execCrc16 s
  | .crccmp => Sys2Proof.Machine.execCrccmp s
  | .tblrd => Sys2Proof.Machine.execTblrd s
  | .clrerr => Sys2Proof.Machine.execClrerr s
  | .getb => Sys2Proof.Machine.execGetb s
  | .gethT => Sys2Proof.Machine.execGethT s
  | .gethLE => Sys2Proof.Machine.execGethLE s
  | .gethBE => Sys2Proof.Machine.execGethBE s
  | .getwT => Sys2Proof.Machine.execGetwT s
  | .getwLE => Sys2Proof.Machine.execGetwLE s
  | .getwBE => Sys2Proof.Machine.execGetwBE s
  | .getshT => Sys2Proof.Machine.execGetshT s
  | .getshLE => Sys2Proof.Machine.execGetshLE s
  | .getshBE => Sys2Proof.Machine.execGetshBE s
  | .getip k => Sys2Proof.Machine.execGetip k s
  | .getdio n => Sys2Proof.Machine.execGetdio n s
  | .bswap16 => Sys2Proof.Machine.execBswap16 s
  | .bswap32 => Sys2Proof.Machine.execBswap32 s
  | .hswap => Sys2Proof.Machine.execHswap s
  | .pswap => Sys2Proof.Machine.execPswap s
  | .sext16 => Sys2Proof.Machine.execSext16 s
  | .m4sync => Sys2Proof.Machine.execM4sync s
  | .m4crc => Sys2Proof.Machine.execM4crc s

end Sys2Proof.Machine
end

