-- ==== Sys2Proof/Machine/Transactions.lean ====
section
/-! DEFINITION. The host transactions (spec 20_memory.md R51, R53; 10_state.md R34, R35;
70_reset_and_hazards.md R220) and the flat bus binding (20_memory.md R59). -/

namespace Sys2Proof.Machine

/-- A write of `CMD`: decode the word and execute the command; an illegal word is `fail(4)` and nothing else
(10_state.md R34, 30_encoding.md R77). -/
def State.command (s : State) (w : Word) : Result :=
  match decode w with
  | .instr i => exec i s
  | .illegal _ => .next (s.fail .illegalCmd)

/-- `HRegWrite(r, w)` (20_memory.md R53): a write of a read-only register does nothing (10_state.md R26). -/
def State.writeReg (s : State) (r : Reg) (w : Word) : Result :=
  match r with
  | .cmd => s.command w
  | .status => .next s
  | .cfg => .next s
  | .off => .next (s.setOff w)
  | .len => .next (s.setLen w)
  | .plen => .next (s.setPlen w)
  | .val => .next (s.setVal w)
  | .crc => .next s

/-- The first address of the registers in the flat bus binding (20_memory.md R59). -/
def busRegBase : Nat := 0x10000

/-- The first reserved address of the flat bus binding (20_memory.md R59). -/
def busReservedBase : Nat := 0x10020

/-- Where an address of the flat bus binding lies (20_memory.md R59). -/
inductive BusTarget where
  /-- The packet window: the offset. -/
  | packet (a : Half)
  /-- A register: its name and whether the address is the register's own, `0x10000 + 4*r`. -/
  | register (r : Reg) (aligned : Bool)
  /-- Reserved. -/
  | reserved
  deriving DecidableEq, Repr

/-- The address map of the flat bus binding (20_memory.md R59, 10_state.md R35). -/
def busTarget (addr : Count) : BusTarget :=
  if addr.toNat < busRegBase then .packet (addr.setWidth 16)
  else if addr.toNat < busReservedBase then
    .register (Reg.ofNumber (addr.extractLsb' 2 3)) (addr.extractLsb' 0 2 == 0)
  else .reserved

/-- A flat bus access (20_memory.md R59): byte accesses to the packet window, 32-bit accesses to a register,
reserved addresses read 0 and ignore writes (10_state.md R35), anything else is refused (log entry 9). -/
def State.busAccess (s : State) : BusAccess → Result
  | .read addr width =>
    match busTarget addr, width with
    | .packet a, .byte => .next (s.respond (.byte (s.pktByte a.toNat)))
    | .register r true, .word => .next (s.respond (.word (s.readReg r)))
    | .reserved, _ => .next (s.respond (.word 0))
    | _, _ => .refused .unsupportedBusAccess
  | .write addr width data =>
    match busTarget addr, width with
    | .packet a, .byte => .next (s.memWrite a (data.setWidth 8))
    | .register r true, .word => s.writeReg r data
    | .reserved, _ => .next s
    | _, _ => .refused .unsupportedBusAccess

/-- One host transaction, to completion (00_scope.md R10). -/
def State.serve (s : State) : Transaction → Result
  | .reset => .next s.hReset
  | .pktWrite a v => .next (s.memWrite a v)
  | .pktRead a => .next (s.respond (.byte (s.pktByte a.toNat)))
  | .regWrite r w => s.writeReg r w
  | .regRead r => .next (s.respond (.word (s.readReg r)))
  | .bus acc => s.busAccess acc

/-- Take the host's next transaction and serve it; with none pending nothing happens (00_scope.md R10;
log entry 5). -/
def State.serveNext (s : State) : Result :=
  match s.port with
  | [] => .next s
  | t :: rest => ({ s with port := rest } : State).serve t

/-- Put a command word at the head of the host's script. -/
def State.submitCommand (s : State) (w : Word) : State := { s with port := .regWrite .cmd w :: s.port }

end Sys2Proof.Machine
end

