-- ==== Sys2Proof/Machine/Step.lean ====
section
/-! DEFINITION. One step of the machine: one host transaction (spec 00_scope.md R10). -/

namespace Sys2Proof.Machine

/-- One step. -/
def step (s : State) : Host.Outcome State Fault Refusal := s.serveNext

/-- `s` with the instruction of a table word as the host's next transaction, a write of `CMD`: the very next step
runs it (10_state.md R34; log entries 5 and 8). -/
def State.withFetchWord (s : State) (nbits w : Nat) : State := s.submitCommand (tableWord nbits w)

end Sys2Proof.Machine
end

