-- ==== Sys2Proof/Machine/Binary32.lean ====
section
/-! DEFINITION. The binary32 reading of `VAL` (spec 42_datapath.md R146, R147): what the consumer takes the 32 bits
for. The block does no floating-point arithmetic; no step uses this file. -/

namespace Sys2Proof.Machine

/-- A binary32 datum (42_datapath.md R147). -/
inductive F32 where
  /-- A NaN; its bits are kept as they are. -/
  | nan (bits : Word)
  /-- Infinity with its sign. -/
  | infinity (negative : Bool)
  /-- `(-1)^s * mantissa * 2^exponent`; a zero keeps its sign. -/
  | finite (negative : Bool) (mantissa : Nat) (exponent : Int)
  deriving DecidableEq, Repr

/-- `f32_of_bits(w)` (42_datapath.md R147). -/
def f32OfBits (w : Word) : F32 :=
  let s := w.getLsbD 31
  let e := (w.extractLsb' 23 8).toNat
  let f := (w.extractLsb' 0 23).toNat
  if e = 255 then (if f = 0 then .infinity s else .nan w)
  else if e = 0 then .finite s f (-149)
  else .finite s (2 ^ 23 + f) ((e : Int) - 150)

/-- The rational value of a finite datum, `none` for a NaN or an infinity. -/
def F32.value? : F32 → Option ℚ
  | .nan _ => none
  | .infinity _ => none
  | .finite negative mantissa exponent =>
    some ((if negative then -1 else 1) * (mantissa : ℚ) * (2 : ℚ) ^ exponent)

/-- The float a consumer sees in `VAL` (42_datapath.md R146): a reading of the bits, never a conversion of the
integer. -/
def State.valFloat (s : State) : F32 := f32OfBits s.val

end Sys2Proof.Machine
end

