-- ==== Sys2Proof/Machine/Script.lean ====
section
/-! DEFINITION. Host scripts (spec 30_encoding.md R80, R81): each line is a fixed expansion into transactions. -/

namespace Sys2Proof.Machine

/-- A script line (30_encoding.md R80) or pseudo-command (R81). -/
inductive ScriptLine where
  /-- `reset`. -/
  | reset
  /-- `pkt <a>, <v0> [, <v1> ...]`. -/
  | pkt (a : Nat) (bytes : List Byte)
  /-- `wr <REG>, <w>`. -/
  | wr (r : Reg) (w : Word)
  /-- `cmd <MNEMONIC>`. -/
  | cmd (i : Instr)
  /-- `cmd <word>`, as the illegal words of 95_test_vectors.md P5 are written. -/
  | cmdWord (w : Word)
  /-- `rd <REG>`. -/
  | rd (r : Reg)
  /-- `rdpkt <a>`. -/
  | rdpkt (a : Nat)
  /-- `GETF.T`. -/
  | getfT
  /-- `GETF.LE`. -/
  | getfLE
  /-- `GETF.BE`. -/
  | getfBE
  /-- `crcof <o>, <n>`. -/
  | crcof (o n : Word)
  /-- `get <MNEMONIC>, <o>`. -/
  | get (i : Instr) (o : Word)
  /-- `m4check <o>`. -/
  | m4check (o : Word)
  /-- `load <a>, <bytes...>, plen <n>`. -/
  | load (a : Nat) (bytes : List Byte) (n : Word)
  deriving DecidableEq, Repr

/-- The write of a command to `CMD` (30_encoding.md R80 `cmd`). -/
def issue (i : Instr) : Transaction := .regWrite .cmd (encode i)

/-- `HPktWrite(a, v0); HPktWrite(a+1, v1); ...` in that order (30_encoding.md R80 `pkt`; log entry 14). -/
def writeBytes : Nat → List Byte → List Transaction
  | _, [] => []
  | a, v :: rest => .pktWrite (BitVec.ofNat 16 a) v :: writeBytes (a + 1) rest

/-- What a line expands to (30_encoding.md R80, R81). -/
def ScriptLine.expand : ScriptLine → List Transaction
  | .reset => [.reset]
  | .pkt a bytes => writeBytes a bytes
  | .wr r w => [.regWrite r w]
  | .cmd i => [issue i]
  | .cmdWord w => [.regWrite .cmd w]
  | .rd r => [.regRead r]
  | .rdpkt a => [.pktRead (BitVec.ofNat 16 a)]
  | .getfT => [issue .getwT]
  | .getfLE => [issue .getwLE]
  | .getfBE => [issue .getwBE]
  | .crcof o n => [.regWrite .off o, .regWrite .len n, issue .crc16]
  | .get i o => [.regWrite .off o, issue i]
  | .m4check o => [.regWrite .off o, issue .m4sync, issue .m4crc]
  | .load a bytes n => writeBytes a bytes ++ [.regWrite .plen n]

/-- The transactions of a whole script, in order. -/
def expandScript (lines : List ScriptLine) : List Transaction := (lines.map ScriptLine.expand).flatten

end Sys2Proof.Machine
end

