-- ==== Sys2Proof/Safety.lean ====
section
/-! DEFINITION. What counts as a good state and a good run, and the vocabulary the statements are written in
(spec 10_state.md section 1, R29, R32; 60_exceptions.md R201, R203, R208). -/

namespace Sys2Proof.Machine

/-- The invariant of the block's states: the packet memory is canonical and inside the buffer; a built table is
the table (10_state.md R32); the strap is the strap (10_state.md R30); a failure code shows in the sticky bit
(10_state.md R29). -/
structure State.Inv (s : State) : Prop where
  pktCanonical : Memory.wf s.pkt
  tableBuilt : s.tv = true → s.tbl = crcTable Config.crc16Poly
  strapped : s.tbo = Config.tboStrap
  errorSticks : s.rc.isError = true → s.es = true

/-- "The run went wrong": some command failed since the last clear (60_exceptions.md R208). `CORRUPT` is no
failure. -/
def State.wentWrong (s : State) : Bool := s.es

/-- Apply a change to the next state of an outcome. -/
def mapNext (f : State → State) : Result → Result
  | .next t => .next (f t)
  | .fault r => .fault r
  | .refused r => .refused r

/-- Run a command after an outcome. -/
def thenExec (r : Result) (i : Instr) : Result :=
  match r with
  | .next t => exec i t
  | .fault e => .fault e
  | .refused e => .refused e

/-- The comparing commands, the only writers of `MATCH` (10_state.md R28). -/
def compares : Instr → Bool
  | .crccmp | .m4sync | .m4crc => true
  | .tinit | .crc16 | .tblrd | .clrerr | .getb | .gethT | .gethLE | .gethBE => false
  | .getwT | .getwLE | .getwBE | .getshT | .getshLE | .getshBE | .getip _ | .getdio _ => false
  | .bswap16 | .bswap32 | .hswap | .pswap | .sext16 => false

/-- The writers of `VAL`: extract, datapath, `TBLRD`, `M4CRC` (10_state.md section 1). -/
def writesVal : Instr → Bool
  | .getb | .gethT | .gethLE | .gethBE | .getwT | .getwLE | .getwBE => true
  | .getshT | .getshLE | .getshBE | .getip _ | .getdio _ => true
  | .bswap16 | .bswap32 | .hswap | .pswap | .sext16 | .tblrd | .m4crc => true
  | .tinit | .crc16 | .crccmp | .clrerr | .m4sync => false

/-- The writers of `CRC` (10_state.md section 1). -/
def writesCrc : Instr → Bool
  | .crc16 | .m4crc => true
  | .tinit | .crccmp | .tblrd | .clrerr | .getb | .gethT | .gethLE | .gethBE => false
  | .getwT | .getwLE | .getwBE | .getshT | .getshLE | .getshBE | .getip _ | .getdio _ => false
  | .bswap16 | .bswap32 | .hswap | .pswap | .sext16 | .m4sync => false

/-- The writers of `TBL` and `TV`: `TINIT` and the lazy builds (10_state.md section 1, R32). -/
def writesTable : Instr → Bool
  | .tinit | .crc16 | .tblrd | .m4crc => true
  | .crccmp | .clrerr | .getb | .gethT | .gethLE | .gethBE => false
  | .getwT | .getwLE | .getwBE | .getshT | .getshLE | .getshBE | .getip _ | .getdio _ => false
  | .bswap16 | .bswap32 | .hswap | .pswap | .sext16 | .m4sync => false

/-- Cause (2) of 60_exceptions.md R203: `GETIP` with a selector of 4 or more. -/
def selectorUnknown : Instr → Bool
  | .getip k => decide (4 ≤ k.toNat)
  | .tinit | .crc16 | .crccmp | .tblrd | .clrerr | .getb | .gethT | .gethLE | .gethBE => false
  | .getwT | .getwLE | .getwBE | .getshT | .getshLE | .getshBE | .getdio _ => false
  | .bswap16 | .bswap32 | .hswap | .pswap | .sext16 | .m4sync | .m4crc => false

/-- How many bytes from `OFF` a command needs in bounds, 0 for none (20_memory.md R58). -/
def spanLength (s : State) : Instr → Nat
  | .crc16 => s.len.toNat
  | .getb => 1
  | .gethT | .gethLE | .gethBE | .getshT | .getshLE | .getshBE | .getdio _ => 2
  | .getwT | .getwLE | .getwBE | .getip _ => 4
  | .m4sync | .m4crc => 64
  | .tinit | .crccmp | .tblrd | .clrerr | .bswap16 | .bswap32 | .hswap | .pswap | .sext16 => 0

/-- Cause (3) of 60_exceptions.md R203: the span is not in bounds (00_scope.md R9), or the `TBLRD` index is
above 255. -/
def spanRefused (i : Instr) (s : State) : Prop :=
  (0 < spanLength s i ∧ ¬ (s.off.toNat + spanLength s i ≤ s.plen.toNat ∧ s.plen.toNat ≤ 65536))
    ∨ (i = .tblrd ∧ 255 < s.off.toNat)

/-- One byte of the bit-serial CRC: XOR the byte into the low half, then eight shift-and-XOR steps
(93_implementation_defined.md G2). -/
def crcSerialByte (poly : Half) (r : Half) (v : Byte) : Half := tblentSteps poly 8 (r ^^^ v.setWidth 16)

/-- The bit-serial CRC of a list of bytes, with no table. -/
def crcSerial (poly init : Half) (bytes : List Byte) : Half := bytes.foldl (crcSerialByte poly) init

end Sys2Proof.Machine
end

