-- ==== Sys2Proof/WellFormed.lean ====
section
/-! DEFINITION. Well-formedness of commands, script lines, scripts and flat bus accesses. -/

namespace Sys2Proof

/-- A command is well formed when its selector fits the 4-bit `SEL` field (spec 30_encoding.md R73). The type of
the operand already says so, hence every term of `Instr` is well formed and no ill-formed one can be written. -/
def Instr.wf : Instr → Bool
  | .getip k => decide (k.toNat < 16)
  | .getdio n => decide (n.toNat < 16)
  | .tinit | .crc16 | .crccmp | .tblrd | .clrerr | .getb => true
  | .gethT | .gethLE | .gethBE | .getwT | .getwLE | .getwBE | .getshT | .getshLE | .getshBE => true
  | .bswap16 | .bswap32 | .hswap | .pswap | .sext16 | .m4sync | .m4crc => true

namespace Machine

/-- The registers a `wr` line may name (30_encoding.md R80). -/
def Reg.writable : Reg → Bool
  | .off | .len | .plen | .val => true
  | .cmd | .status | .cfg | .crc => false

/-- The registers an `rd` line may name (30_encoding.md R80). -/
def Reg.readable : Reg → Bool
  | .cmd => false
  | .status | .cfg | .off | .len | .plen | .val | .crc => true

/-- The field accessors, the commands a `get` line may name (30_encoding.md R81, 41_extract.md). -/
def isAccessor : Instr → Bool
  | .getb | .gethT | .gethLE | .gethBE | .getwT | .getwLE | .getwBE => true
  | .getshT | .getshLE | .getshBE | .getip _ | .getdio _ => true
  | .tinit | .crc16 | .crccmp | .tblrd | .clrerr => false
  | .bswap16 | .bswap32 | .hswap | .pswap | .sext16 | .m4sync | .m4crc => false

/-- A script line names a register it may name, an accessor, and bytes inside the buffer
(30_encoding.md R80, R81; 20_memory.md R51). -/
def ScriptLine.wf : ScriptLine → Bool
  | .pkt a bytes => !bytes.isEmpty && decide (a + bytes.length ≤ pktCap)
  | .wr r _ => r.writable
  | .rd r => r.readable
  | .rdpkt a => decide (a < pktCap)
  | .get i _ => isAccessor i
  | .load a bytes _ => !bytes.isEmpty && decide (a + bytes.length ≤ pktCap)
  | .reset | .cmd _ | .cmdWord _ | .getfT | .getfLE | .getfBE | .crcof _ _ | .m4check _ => true

/-- A script is a finite sequence of well-formed lines beginning with `reset` (30_encoding.md R80;
70_reset_and_hazards.md R232; 92_eei_decisions.md D22). -/
def scriptWf : List ScriptLine → Bool
  | .reset :: rest => rest.all ScriptLine.wf
  | _ => false

/-- Whether the flat bus binding supports an access of this width at this address (20_memory.md R59). -/
def busSupports (addr : Count) (width : BusWidth) : Bool :=
  match busTarget addr, width with
  | .packet _, .byte => true
  | .register _ true, .word => true
  | .reserved, _ => true
  | _, _ => false

/-- A flat bus access the binding supports (20_memory.md R59). -/
def BusAccess.wf : BusAccess → Bool
  | .read addr width => busSupports addr width
  | .write addr width _ => busSupports addr width

/-- A transaction is well formed unless it is an unsupported bus access (20_memory.md R59). -/
def Transaction.wf : Transaction → Bool
  | .bus acc => acc.wf
  | .reset | .pktWrite _ _ | .pktRead _ | .regWrite _ _ | .regRead _ => true

end Machine

end Sys2Proof
end

