-- ==== Sys2Proof/Certificates/Slice0/Obligations.lean ====
section
/-! DEFINITION. The statements for the provers. Each names the numbered rule of spec/ it formalises. Bytes of the
packet are read through `State.pktByte`; every next state is written out whole, so each statement is also the
frame: a field that is not named is unchanged, the packet memory among them. -/

open Sys2Proof Sys2Proof.Machine

/-! ## Encoding (30_encoding.md) -/

/-- 30_encoding.md R76, 95_test_vectors.md V1 and V2: words written out from the table decode to their commands,
and four illegal ones do not decode. -/
def Obligations.KnownWordsDecode : Prop :=
  decode 0x00000001#32 = .instr .tinit ∧ decode 0x00000005#32 = .instr .clrerr ∧
  decode 0x00000010#32 = .instr .getb ∧ decode 0x00000211#32 = .instr .gethBE ∧
  decode 0x00000112#32 = .instr .getwLE ∧ decode 0x00000013#32 = .instr .getshT ∧
  decode 0x00003014#32 = .instr (.getip 3) ∧ decode 0x0000B015#32 = .instr (.getdio 11) ∧
  decode 0x00000023#32 = .instr .pswap ∧ decode 0x00000031#32 = .instr .m4crc ∧
  decode 0x00000000#32 = .illegal .unassignedOpc ∧ decode 0x00000311#32 = .illegal .badFormatO ∧
  decode 0x00000410#32 = .illegal .reservedLow ∧ decode 0x80000001#32 = .illegal .reservedHigh

/-- 30_encoding.md R70 to R76, R82: decoding the word of a command gives the command back, for every value of the
selector. -/
def Obligations.DecodeInvertsEncode : Prop :=
  ∀ i : Instr, i.wf = true → decode (encode i) = .instr i

/-- 30_encoding.md R82: a command has no second word; a legal word is the encoder's word, bit for bit. -/
def Obligations.LegalWordsReencode : Prop :=
  ∀ (w : Word) (i : Instr), decode w = .instr i → encode i = w

/-- 30_encoding.md R82: "a word is the command of an opcode_table.json row exactly when (w & mask) = match; the
rows' (match, mask) pairs are disjoint". -/
def Obligations.OpcodeRowsDecide : Prop :=
  (∀ (w : Word) (i : Instr), decode w = .instr i → w &&& (opRow i).mask = (opRow i).bits) ∧
  (∀ (w : Word) (j : Instr), w &&& (opRow j).mask = (opRow j).bits →
    ∃ i, decode w = .instr i ∧ opRow i = opRow j) ∧
  (∀ (w : Word) (i j : Instr), w &&& (opRow i).mask = (opRow i).bits →
    w &&& (opRow j).mask = (opRow j).bits → opRow i = opRow j)

/-- 30_encoding.md R77: which words are illegal, field by field, and that writing one to `CMD` does nothing but
`RC <- 4`, `ES <- 1`; the all-zero word is illegal. -/
def Obligations.IllegalWordsOnlyReport : Prop :=
  (∀ w : Word,
    let opc := w.toNat % 256
    let ord := w.toNat / 256 % 4
    let sel := w.toNat / 4096 % 16
    let formatN := opc ∈ [0x01, 0x02, 0x03, 0x04, 0x05, 0x10, 0x20, 0x21, 0x22, 0x23, 0x24, 0x30, 0x31]
    let formatO := opc ∈ [0x11, 0x12, 0x13]
    let formatS := opc ∈ [0x14, 0x15]
    (∃ y, decode w = .illegal y) ↔
      w.toNat / 65536 ≠ 0 ∨ w.toNat / 1024 % 4 ≠ 0 ∨ ¬ (formatN ∨ formatO ∨ formatS) ∨
      (formatN ∧ (ord ≠ 0 ∨ sel ≠ 0)) ∨ (formatO ∧ (sel ≠ 0 ∨ ord = 3)) ∨ (formatS ∧ ord ≠ 0)) ∧
  (∀ (s : State) (rest : List Transaction) (w : Word) (y : Illegal),
    s.port = .regWrite .cmd w :: rest → decode w = .illegal y →
      step s = .next { s with port := rest, rc := .illegalCmd, es := true }) ∧
  ∃ y, decode 0#32 = .illegal y

/-! ## The step and the host transactions (00_scope.md, 10_state.md, 20_memory.md, 70_reset_and_hazards.md) -/

/-- 10_state.md R34, 00_scope.md R10: one step runs the command that the word written to `CMD` decodes to, at the
state with the transaction taken off the host's script; the word placed by `withFetchWord` is that next one. -/
def Obligations.StepRunsDecodedCommand : Prop :=
  (∀ (s : State) (rest : List Transaction) (w : Word) (i : Instr),
    s.port = .regWrite .cmd w :: rest → decode w = .instr i → i.wf = true →
      step s = exec i { s with port := rest }) ∧
  (∀ (s : State) (nbits w : Nat) (i : Instr),
    decodeTableWord nbits w = some i → step (s.withFetchWord nbits w) = exec i s)

/-- The model's own choice (log entry 5), from 00_scope.md R10 "nothing happens between transactions": with no
transaction pending a step changes nothing. -/
def Obligations.NothingHappensWithoutTransaction : Prop :=
  ∀ s : State, s.port = [] → step s = .next s

/-- 20_memory.md R51: `HPktWrite` writes one byte and nothing else, `HPktRead` returns a byte and changes nothing
but the host's record of reads. -/
def Obligations.PacketTransactions : Prop :=
  (∀ (s : State) (rest : List Transaction) (a : Half) (v : Byte), s.port = .pktWrite a v :: rest →
    ∃ t, step s = .next t ∧ t = { s with port := rest, pkt := t.pkt } ∧
      ∀ b : Nat, t.pktByte b = if b = a.toNat then v else s.pktByte b) ∧
  (∀ (s : State) (rest : List Transaction) (a : Half), s.port = .pktRead a :: rest →
    step s = .next { s with port := rest, reads := .byte (s.pktByte a.toNat) :: s.reads })

/-- 20_memory.md R53, 10_state.md R34: a register write stores the kept low bits, executes a command (`CMD`) or
does nothing (read-only registers); a register read returns the value zero-extended, 0 for `CMD`, and changes
nothing but the host's record of reads. -/
def Obligations.RegisterTransactions : Prop :=
  (∀ (s : State) (rest : List Transaction) (w : Word),
    (s.port = .regWrite .off w :: rest →
      step s = .next { s with port := rest, off := BitVec.ofNat 16 (w.toNat % 65536) }) ∧
    (s.port = .regWrite .len w :: rest →
      step s = .next { s with port := rest, len := BitVec.ofNat 17 (w.toNat % 131072) }) ∧
    (s.port = .regWrite .plen w :: rest →
      step s = .next { s with port := rest, plen := BitVec.ofNat 17 (w.toNat % 131072) }) ∧
    (s.port = .regWrite .val w :: rest → step s = .next { s with port := rest, val := w }) ∧
    (∀ r, r = .status ∨ r = .cfg ∨ r = .crc → s.port = .regWrite r w :: rest →
      step s = .next { s with port := rest }) ∧
    (s.port = .regWrite .cmd w :: rest →
      (∀ i, decode w = .instr i → step s = exec i { s with port := rest }) ∧
      (∀ y, decode w = .illegal y →
        step s = .next { s with port := rest, rc := .illegalCmd, es := true }))) ∧
  (∀ (s : State) (rest : List Transaction) (r : Reg), s.port = .regRead r :: rest →
    ∃ v : Word, step s = .next { s with port := rest, reads := .word v :: s.reads } ∧
      v.toNat = match r with
        | .cmd => 0
        | .status => s.tv.toNat + 2 * s.matched.toNat + 4 * s.es.toNat + 16 * s.rc.code.toNat
        | .cfg => s.tbo.toNat
        | .off => s.off.toNat
        | .len => s.len.toNat
        | .plen => s.plen.toNat
        | .val => s.val.toNat
        | .crc => s.crc.toNat)

/-- 10_state.md R29, R30; 93_implementation_defined.md U8: the bits of `STATUS` and `CFG`; bit 3 and the bits from
7 of `STATUS`, and all bits of `CFG` but bit 0, read 0, and `RC` is at most 4. -/
def Obligations.StatusAndCfgBits : Prop :=
  ∀ s : State,
    (∀ k : Nat, s.statusWord.getLsbD k =
      if k = 0 then s.tv else if k = 1 then s.matched else if k = 2 then s.es
      else if 4 ≤ k ∧ k ≤ 6 then s.rc.code.getLsbD (k - 4) else false) ∧
    (∀ k : Nat, s.cfgWord.getLsbD k = if k = 0 then s.tbo else false) ∧ s.rc.code.toNat ≤ 4

/-- 20_memory.md R59, 10_state.md R35; 93_implementation_defined.md U10: the flat bus binding carries the abstract
transactions, its reserved addresses read 0 and ignore writes, and every other access is refused. R59 does not give
three of the clauses, which are the model's choices (log entry 9): that a byte write to the packet window writes
`data[7:0]`, that a reserved address takes an access of every width, and that a 32-bit access off a register's own
address is among the refused. -/
def Obligations.FlatBusCarriesTransactions : Prop :=
  ∀ (s : State) (rest : List Transaction) (addr : Count) (width : BusWidth) (data : Word),
    (addr.toNat < 0x10000 →
      step { s with port := .bus (.read addr .byte) :: rest }
        = step { s with port := .pktRead (BitVec.ofNat 16 addr.toNat) :: rest } ∧
      step { s with port := .bus (.write addr .byte data) :: rest }
        = step { s with port := .pktWrite (BitVec.ofNat 16 addr.toNat) (BitVec.ofNat 8 data.toNat) :: rest }) ∧
    (∀ r : Reg, addr.toNat = 0x10000 + 4 * r.number.toNat →
      step { s with port := .bus (.read addr .word) :: rest } = step { s with port := .regRead r :: rest } ∧
      step { s with port := .bus (.write addr .word data) :: rest }
        = step { s with port := .regWrite r data :: rest }) ∧
    (0x10020 ≤ addr.toNat →
      step { s with port := .bus (.read addr width) :: rest }
        = .next { s with port := rest, reads := .word 0 :: s.reads } ∧
      step { s with port := .bus (.write addr width data) :: rest } = .next { s with port := rest }) ∧
    (addr.toNat < 0x10020 → (addr.toNat < 0x10000 → width ≠ .byte) →
      (0x10000 ≤ addr.toNat → addr.toNat % 4 = 0 → width ≠ .word) →
      step { s with port := .bus (.read addr width) :: rest } = .refused .unsupportedBusAccess ∧
      step { s with port := .bus (.write addr width data) :: rest } = .refused .unsupportedBusAccess)

/-- 70_reset_and_hazards.md R220: `HReset` at any time puts every piece of state at its reset value (`TBL` and
`PKT` are left unspecified, so nothing is said of them), and no command performs it: a command never clears `TV`
and leaves `PLEN`, `OFF` and `LEN`. R220 does not give the conjuncts on `port` and `reads`: that `HReset` leaves the
rest of the host's script and the host's record of reads is the model's choice (log entries 5 and 6). -/
def Obligations.HResetRestoresState : Prop :=
  (∀ (s : State) (rest : List Transaction), s.port = .reset :: rest →
    ∃ t, step s = .next t ∧ t.tv = false ∧ t.plen = 0 ∧ t.off = 0 ∧ t.len = 0 ∧ t.val = 0 ∧ t.crc = 0 ∧
      t.matched = false ∧ t.es = false ∧ t.rc = .ok ∧ t.tbo = Config.tboStrap ∧ t.port = rest ∧
      t.reads = s.reads) ∧
  (∀ (i : Instr) (s t : State), exec i s = .next t →
    (s.tv = true → t.tv = true) ∧ t.plen = s.plen ∧ t.off = s.off ∧ t.len = s.len)

/-- 10_state.md R36: the values right after reset, with the words of `STATUS` and `CFG`. -/
def Obligations.ResetStateValues : Prop :=
  State.reset.tv = false ∧ State.reset.plen = 0 ∧ State.reset.off = 0 ∧ State.reset.len = 0 ∧
  State.reset.val = 0 ∧ State.reset.crc = 0 ∧ State.reset.matched = false ∧ State.reset.es = false ∧
  State.reset.rc = .ok ∧ State.reset.tbo = Config.tboStrap ∧ State.reset.statusWord = 0#32

/-- 70_reset_and_hazards.md R221: only reset makes `TV` or the built table go back; `TBO` never changes. -/
def Obligations.TableIsNeverUnbuilt : Prop :=
  ∀ s t : State, s.Inv → step s = .next t →
    ((∀ rest, s.port ≠ .reset :: rest) → s.tv = true → t.tv = true ∧ t.tbl = s.tbl) ∧ t.tbo = s.tbo

/-- The invariant holds after reset (10_state.md R36). -/
def Obligations.InvAtReset : Prop := State.reset.Inv

/-- Every step keeps the invariant: canonical packet memory, a built table is the table (10_state.md R32), the
strap (R30), a failure code shows in `ES` (R29). -/
def Obligations.StepKeepsInv : Prop :=
  ∀ s t : State, s.Inv → step s = .next t → t.Inv

/-- 20_memory.md R60 "never read out-of-bounds", 70_reset_and_hazards.md R231: no step faults, so no command calls
MemRead out of bounds, and the only refused transactions are the flat bus accesses that R59 does not support. -/
def Obligations.StepNeverFaults : Prop :=
  (∀ (s : State) (r : Fault), step s ≠ .fault r) ∧
  (∀ (s : State) (r : Refusal), step s = .refused r →
    r = .unsupportedBusAccess ∧ ∃ acc rest, s.port = .bus acc :: rest ∧ acc.wf = false)

/-- 70_reset_and_hazards.md R231: every command completes, in every state. -/
def Obligations.CommandsAlwaysComplete : Prop :=
  ∀ (i : Instr) (s : State), ∃ t, exec i s = .next t

/-! ## Rules about all commands (10_state.md section 1, 20_memory.md, 60_exceptions.md) -/

/-- 20_memory.md R52, 10_state.md R21, R22, R25: no command writes `PKT`, `OFF`, `LEN` or `PLEN`; nor `TBO`, nor
the model's own fields. -/
def Obligations.CommandsKeepOperandsAndPacket : Prop :=
  ∀ (i : Instr) (s t : State), exec i s = .next t →
    t.pkt = s.pkt ∧ (∀ a : Nat, t.pktByte a = s.pktByte a) ∧ t.plen = s.plen ∧ t.off = s.off ∧
      t.len = s.len ∧ t.tbo = s.tbo ∧ t.port = s.port ∧ t.reads = s.reads ∧ t.resets = s.resets

/-- 10_state.md section 1, "written by commands": which commands can change `VAL`, `CRC`, `TBL`, `TV` and `MATCH`,
and that only `CLRERR` clears `ES`. -/
def Obligations.CommandWriteSets : Prop :=
  ∀ (i : Instr) (s t : State), exec i s = .next t →
    (writesVal i = false → t.val = s.val) ∧ (writesCrc i = false → t.crc = s.crc) ∧
    (writesTable i = false → t.tbl = s.tbl ∧ t.tv = s.tv) ∧ (compares i = false → t.matched = s.matched) ∧
    (i ≠ .clrerr → t.es = (s.es || t.rc.isError))

/-- 60_exceptions.md R204: a failing command changes `RC` and `ES` and nothing else, reads no packet byte (with any
other packet it fails the same way), and leaves a state in which every command runs. -/
def Obligations.FailureChangesOnlyRcAndEs : Prop :=
  (∀ (i : Instr) (s t : State), exec i s = .next t → t.rc.isError = true →
    t = { s with rc := t.rc, es := true } ∧
    (∀ m : Memory, exec i { s with pkt := m } = .next { t with pkt := m }) ∧
    ∀ j : Instr, ∃ u, exec j t = .next u) ∧
  (∀ (s : State) (w : Word) (y : Illegal), decode w = .illegal y →
    s.command w = .next { s with rc := .illegalCmd, es := true })

/-- 60_exceptions.md R203: the code a command reports is that of the first cause in the fixed order: illegal word,
unknown selector, bounds, mismatch, otherwise `OK`. -/
def Obligations.CauseOrder : Prop :=
  (∀ (s t : State) (w : Word) (y : Illegal), decode w = .illegal y → s.command w = .next t →
    t.rc = .illegalCmd) ∧
  (∀ (i : Instr) (s t : State), exec i s = .next t →
    (selectorUnknown i = true → t.rc = .unknownSelector) ∧
    (selectorUnknown i = false → spanRefused i s → t.rc = .invalidInput) ∧
    (selectorUnknown i = false → ¬ spanRefused i s → compares i = true →
      t.rc = if t.matched then .ok else .corrupt) ∧
    (selectorUnknown i = false → ¬ spanRefused i s → compares i = false → t.rc = .ok))

/-- 60_exceptions.md R205, 10_state.md R29: `ES` stays 1 until `CLRERR` or reset; the only transactions that bring
it from 1 to 0 are these (`CLRERR` delivered by the register write or by the bus write that carries it). -/
def Obligations.ErrorSticksUntilCleared : Prop :=
  ∀ s t : State, step s = .next t → s.es = true → t.es = false →
    ∃ rest, s.port = .reset :: rest ∨ s.port = .regWrite .cmd 0x00000005#32 :: rest ∨
      s.port = .bus (.write 0x10000#17 .word 0x00000005#32) :: rest

/-- 60_exceptions.md R208: `CORRUPT` is a verdict of a comparing command and does not set `ES`. -/
def Obligations.CorruptIsNotAnError : Prop :=
  ∀ (i : Instr) (s t : State), exec i s = .next t → t.rc = .corrupt →
    compares i = true ∧ t.matched = false ∧ t.es = s.es

/-- 10_state.md R28: `MATCH` is written by exactly the three comparing commands, with the equality each compares;
a failing one leaves it; after one that did not fail it agrees with `RC`; no command's behaviour depends on it. -/
def Obligations.MatchFlagRule : Prop :=
  (∀ (i : Instr) (s t : State), exec i s = .next t →
    (compares i = false ∨ t.rc.isError = true → t.matched = s.matched) ∧
    (compares i = true → t.rc.isError = false →
      (t.matched = true ↔ t.rc = .ok) ∧ (t.matched = false ↔ t.rc = .corrupt))) ∧
  (∀ s t : State, exec .crccmp s = .next t → (t.matched = true ↔ s.crc.toNat = s.val.toNat % 65536)) ∧
  (∀ s t : State, exec .m4sync s = .next t → t.rc.isError = false →
    (t.matched = true ↔
      s.pktByte (s.off.toNat + 60) = Config.m4Sync.b0 ∧ s.pktByte (s.off.toNat + 61) = Config.m4Sync.b1 ∧
      s.pktByte (s.off.toNat + 62) = Config.m4Sync.b2 ∧ s.pktByte (s.off.toNat + 63) = Config.m4Sync.b3)) ∧
  (∀ s t : State, exec .m4crc s = .next t → t.rc.isError = false →
    (t.matched = true ↔ t.crc.toNat = t.val.toNat)) ∧
  (∀ (i : Instr) (s t : State) (b : Bool), exec i s = .next t →
    exec i { s with matched := b }
      = .next { t with matched := if compares i && !t.rc.isError then t.matched else b })

/-- 20_memory.md R55: for every state and every command the state after the command is the same for `TBO = 0` and
`TBO = 1` but for `TBO` itself; `TBO` is readable in `CFG`; the target-order commands do what the little-endian
ones do. -/
def Obligations.TargetByteOrderHasNoEffect : Prop :=
  (∀ (i : Instr) (s : State) (b : Bool),
    exec i { s with tbo := b } = mapNext (fun t => { t with tbo := b }) (exec i s)) ∧
  (∀ s : State, exec .gethT s = exec .gethLE s ∧ exec .getwT s = exec .getwLE s ∧
    exec .getshT s = exec .getshLE s ∧ s.cfgWord.toNat = s.tbo.toNat)

/-- 20_memory.md R60, 93_implementation_defined.md U3: no command's effect depends on packet bytes at or above
`PLEN`: replacing the packet by one that agrees below `PLEN` changes nothing else. -/
def Obligations.BytesAbovePlenAreNeverRead : Prop :=
  ∀ (i : Instr) (s : State) (m : Memory),
    (∀ a : Nat, a < s.plen.toNat → ({ s with pkt := m } : State).pktByte a = s.pktByte a) →
      exec i { s with pkt := m } = mapNext (fun t => { t with pkt := m }) (exec i s)

/-- 10_state.md R31, R36, 93_implementation_defined.md U2: a command that reads a byte nothing has written does not
fail and gets the unspecified byte, here through `GETB`; and after `HReset` every byte is an unspecified one (the
form of the free value and the count of resets are the model's, log entries 3 and 7). -/
def Obligations.UnwrittenByteIsFree : Prop :=
  (∀ s : State, (∀ v, (s.off.toNat, v) ∉ s.pkt) → s.off.toNat < s.plen.toNat → s.plen.toNat ≤ 65536 →
    exec .getb s = .next { s with
      val := BitVec.ofNat 32 (Config.unwrittenByte s.resets s.off.toNat).toNat, rc := .ok }) ∧
  (∀ (s : State) (rest : List Transaction), s.port = .reset :: rest →
    ∃ t, step s = .next t ∧ ∀ a : Nat, t.pktByte a = Config.unwrittenByte (s.resets + 1) a)

/-! ## The CRC family (40_crc.md) -/

/-- 40_crc.md R105: `TINIT` builds the table, writes `TV` and `RC` and nothing else; with a built table nothing
observable changes but `RC`. -/
def Obligations.TinitBuildsTable : Prop :=
  decode 0x00000001#32 = .instr .tinit ∧
  (∀ s : State, exec .tinit s
    = .next { s with tbl := crcTable Config.crc16Poly, tv := true, rc := .ok }) ∧
  (∀ s : State, s.Inv → s.tv = true → exec .tinit s = .next { s with rc := .ok }) ∧
  (∀ t : State, exec .tinit State.reset = .next t → t.statusWord = 0x00000001#32)

/-- 40_crc.md R106: `CRC16` checks the bounds (only when `LEN > 0`), builds the table when it is not built, and
folds the span in ascending order from `CRC16_INIT`; `LEN = 0` never fails and gives `CRC16_INIT`. The worked
example is for the example parameters (0xA001, 0xFFFF). -/
def Obligations.Crc16FoldsSpan : Prop :=
  decode 0x00000002#32 = .instr .crc16 ∧
  (∀ s : State,
    let bytes := (List.range s.len.toNat).map fun k => s.pktByte (s.off.toNat + k)
    let table := if s.tv then s.tbl else crcTable Config.crc16Poly
    (0 < s.len.toNat → ¬ (s.off.toNat + s.len.toNat ≤ s.plen.toNat ∧ s.plen.toNat ≤ 65536) →
      exec .crc16 s = .next { s with rc := .invalidInput, es := true }) ∧
    (0 < s.len.toNat → s.off.toNat + s.len.toNat ≤ s.plen.toNat → s.plen.toNat ≤ 65536 →
      exec .crc16 s = .next { s with
        tbl := table, tv := true, crc := bytes.foldl (crcStep table) Config.crc16Init, rc := .ok }) ∧
    (s.len.toNat = 0 →
      exec .crc16 s = .next { s with tbl := table, tv := true, crc := Config.crc16Init, rc := .ok })) ∧
  crcSpan (crcTable 0xA001#16) 0xFFFF#16 [0x31, 0x32, 0x33, 0x34, 0x35, 0x36, 0x37, 0x38, 0x39] = 0x4B37#16

/-- 40_crc.md R107: `CRCCMP` compares `CRC` with `VAL[15:0]` and writes `MATCH` and `RC` alone. -/
def Obligations.CrccmpCompares : Prop :=
  decode 0x00000003#32 = .instr .crccmp ∧
  ∀ s : State,
    (s.crc.toNat = s.val.toNat % 65536 → exec .crccmp s = .next { s with matched := true, rc := .ok }) ∧
    (s.crc.toNat ≠ s.val.toNat % 65536 →
      exec .crccmp s = .next { s with matched := false, rc := .corrupt })

/-- 40_crc.md R108: `TBLRD` refuses an index above 255 and otherwise copies the entry, building the table first
when it is not built; `PLEN` plays no part. -/
def Obligations.TblrdReadsEntry : Prop :=
  decode 0x00000004#32 = .instr .tblrd ∧
  (∀ s : State, 255 < s.off.toNat → exec .tblrd s = .next { s with rc := .invalidInput, es := true }) ∧
  (∀ s : State, s.off.toNat ≤ 255 → ∃ v : Half,
    exec .tblrd s = .next { s with
      tbl := if s.tv then s.tbl else crcTable Config.crc16Poly, tv := true,
      val := BitVec.ofNat 32 v.toNat, rc := .ok } ∧
    (if s.tv then s.tbl else crcTable Config.crc16Poly)[s.off.toNat]? = some v ∧
    (s.Inv → v = tblent Config.crc16Poly s.off.toNat)) ∧
  (∀ s : State, s.Inv → s.off.toNat = 128 → ∃ t, exec .tblrd s = .next t ∧
    t.val = BitVec.ofNat 32 Config.crc16Poly.toNat)

/-- 40_crc.md R101: the byte step through the built table is `(r >> 8) ^ tblent((r ^ v) & 0xFF)`. -/
def Obligations.CrcStepFormula : Prop :=
  ∀ (poly r : Half) (v : Byte),
    crcStep (crcTable poly) r v
      = BitVec.ofNat 16 (r.toNat / 256) ^^^ tblent poly ((r.toNat ^^^ v.toNat) % 256)

/-- 40_crc.md R109: the laws of the table for every `CRC16_POLY`, and of the span. -/
def Obligations.TableAndSpanLaws : Prop :=
  (∀ poly : Half,
    tblent poly 0 = 0 ∧ tblent poly 128 = poly ∧
    tblent poly 64 = (poly >>> 1) ^^^ (if poly.getLsbD 0 then poly else 0) ∧
    ∀ i j : Nat, i < 256 → j < 256 → tblent poly (i ^^^ j) = tblent poly i ^^^ tblent poly j) ∧
  (∀ (table : Vector Half 256) (init : Half) (s : State) (o n : Nat),
    crcSpan table init (s.pktBytes o 0) = init ∧
    crcSpan table init (s.pktBytes o (n + 1))
      = crcStep table (crcSpan table init (s.pktBytes o n)) (s.pktByte (o + n)))

/-- 93_implementation_defined.md G2 (the ground for 40_crc.md R100): the table-driven CRC equals the bit-serial
CRC, for every polynomial, initial value and span. -/
def Obligations.TableCrcEqualsBitSerial : Prop :=
  ∀ (poly init : Half) (bytes : List Byte),
    crcSpan (crcTable poly) init bytes = crcSerial poly init bytes

/-- 95_test_vectors.md V22 (from 40_crc.md R101, R109): a span followed by its own CRC stored little-endian has
CRC 0, for every polynomial and initial value. -/
def Obligations.ResidueVanishes : Prop :=
  ∀ (poly init : Half) (bytes : List Byte),
    let c := crcSpan (crcTable poly) init bytes
    crcSpan (crcTable poly) init (bytes ++ [BitVec.ofNat 8 (c.toNat % 256), BitVec.ofNat 8 (c.toNat / 256)]) = 0

/-- 10_state.md R33, 70_reset_and_hazards.md R223: building the table eagerly with `TINIT` changes no result of any
later command: `VAL`, `CRC`, `MATCH`, `RC`, `ES` are as with the lazy build. -/
def Obligations.LazyAndEagerBuildAgree : Prop :=
  ∀ (i : Instr) (s u t : State), s.Inv → exec .tinit s = .next u → exec i s = .next t →
    ∃ t', exec i u = .next t' ∧ t'.val = t.val ∧ t'.crc = t.crc ∧ t'.matched = t.matched ∧
      t'.rc = t.rc ∧ t'.es = t.es

/-! ## The system family (44_system.md) -/

/-- 44_system.md R170: `CLRERR` clears `ES`, writes `RC = 0` and touches nothing else; no other command clears
`ES`; an illegal word after it sets `ES` again. -/
def Obligations.ClrerrClearsSticky : Prop :=
  decode 0x00000005#32 = .instr .clrerr ∧
  (∀ s : State, exec .clrerr s = .next { s with es := false, rc := .ok }) ∧
  (∀ s : State, s.es = false → exec .clrerr s = .next { s with rc := .ok }) ∧
  (∀ (i : Instr) (s t : State), i ≠ .clrerr → exec i s = .next t → s.es = true → t.es = true) ∧
  (∀ (s t : State) (w : Word) (y : Illegal), exec .clrerr s = .next t → decode w = .illegal y →
    ∃ u, t.command w = .next u ∧ u.es = true) ∧
  (∀ t u : State, exec (.getip 9) State.reset = .next t → exec .clrerr t = .next u →
    t.statusWord = 0x00000034#32 ∧ u.statusWord = 0x00000000#32)

/-! ## The extract family (41_extract.md) -/

/-- 41_extract.md R121: `GETB`. -/
def Obligations.GetbReadsOneByte : Prop :=
  decode 0x00000010#32 = .instr .getb ∧
  ∀ s : State,
    (s.off.toNat < s.plen.toNat ∧ s.plen.toNat ≤ 65536 →
      exec .getb s = .next { s with val := BitVec.ofNat 32 (s.pktByte s.off.toNat).toNat, rc := .ok }) ∧
    (s.plen.toNat ≤ s.off.toNat ∨ 65536 < s.plen.toNat →
      exec .getb s = .next { s with rc := .invalidInput, es := true })

/-- 41_extract.md R122, R123, R124: `GETH.T`, `GETH.LE`, `GETH.BE`; `GETH.T` and `GETH.LE` agree in every state and
`GETH.BE` is `GETH.LE` then `BSWAP16`. -/
def Obligations.GethReadsTwoBytes : Prop :=
  decode 0x00000011#32 = .instr .gethT ∧ decode 0x00000111#32 = .instr .gethLE ∧
  decode 0x00000211#32 = .instr .gethBE ∧
  ∀ s : State,
    let b0 := (s.pktByte s.off.toNat).toNat
    let b1 := (s.pktByte (s.off.toNat + 1)).toNat
    (s.off.toNat + 2 ≤ s.plen.toNat ∧ s.plen.toNat ≤ 65536 →
      exec .gethT s = .next { s with val := BitVec.ofNat 32 (b1 * 256 + b0), rc := .ok } ∧
      exec .gethLE s = .next { s with val := BitVec.ofNat 32 (b1 * 256 + b0), rc := .ok } ∧
      exec .gethBE s = .next { s with val := BitVec.ofNat 32 (b0 * 256 + b1), rc := .ok } ∧
      thenExec (exec .gethLE s) .bswap16 = exec .gethBE s) ∧
    (s.plen.toNat < s.off.toNat + 2 ∨ 65536 < s.plen.toNat →
      exec .gethT s = .next { s with rc := .invalidInput, es := true } ∧
      exec .gethLE s = .next { s with rc := .invalidInput, es := true } ∧
      exec .gethBE s = .next { s with rc := .invalidInput, es := true })

/-- 41_extract.md R125, R126, R127: `GETW.T`, `GETW.LE`, `GETW.BE`; `GETW.T` and `GETW.LE` agree in every state and
`GETW.BE` is `GETW.LE` then `BSWAP32`. -/
def Obligations.GetwReadsFourBytes : Prop :=
  decode 0x00000012#32 = .instr .getwT ∧ decode 0x00000112#32 = .instr .getwLE ∧
  decode 0x00000212#32 = .instr .getwBE ∧
  ∀ s : State,
    let b0 := (s.pktByte s.off.toNat).toNat
    let b1 := (s.pktByte (s.off.toNat + 1)).toNat
    let b2 := (s.pktByte (s.off.toNat + 2)).toNat
    let b3 := (s.pktByte (s.off.toNat + 3)).toNat
    let le := BitVec.ofNat 32 (b3 * 16777216 + b2 * 65536 + b1 * 256 + b0)
    let be := BitVec.ofNat 32 (b0 * 16777216 + b1 * 65536 + b2 * 256 + b3)
    (s.off.toNat + 4 ≤ s.plen.toNat ∧ s.plen.toNat ≤ 65536 →
      exec .getwT s = .next { s with val := le, rc := .ok } ∧
      exec .getwLE s = .next { s with val := le, rc := .ok } ∧
      exec .getwBE s = .next { s with val := be, rc := .ok } ∧
      thenExec (exec .getwLE s) .bswap32 = exec .getwBE s) ∧
    (s.plen.toNat < s.off.toNat + 4 ∨ 65536 < s.plen.toNat →
      exec .getwT s = .next { s with rc := .invalidInput, es := true } ∧
      exec .getwLE s = .next { s with rc := .invalidInput, es := true } ∧
      exec .getwBE s = .next { s with rc := .invalidInput, es := true })

/-- 41_extract.md R128, R129, R130: `GETSH.T`, `GETSH.LE`, `GETSH.BE`: the signed value of the 16-bit
two's-complement field; `GETSH.T` is `GETH.T` then `SEXT16`. -/
def Obligations.GetshSignExtends : Prop :=
  decode 0x00000013#32 = .instr .getshT ∧ decode 0x00000113#32 = .instr .getshLE ∧
  decode 0x00000213#32 = .instr .getshBE ∧
  ∀ s : State,
    let b0 : Int := (s.pktByte s.off.toNat).toNat
    let b1 : Int := (s.pktByte (s.off.toNat + 1)).toNat
    let le := BitVec.ofInt 32 (if b1 < 128 then b1 * 256 + b0 else b1 * 256 + b0 - 65536)
    let be := BitVec.ofInt 32 (if b0 < 128 then b0 * 256 + b1 else b0 * 256 + b1 - 65536)
    (s.off.toNat + 2 ≤ s.plen.toNat ∧ s.plen.toNat ≤ 65536 →
      exec .getshT s = .next { s with val := le, rc := .ok } ∧
      exec .getshLE s = .next { s with val := le, rc := .ok } ∧
      exec .getshBE s = .next { s with val := be, rc := .ok } ∧
      thenExec (exec .gethT s) .sext16 = exec .getshT s) ∧
    (s.plen.toNat < s.off.toNat + 2 ∨ 65536 < s.plen.toNat →
      exec .getshT s = .next { s with rc := .invalidInput, es := true } ∧
      exec .getshLE s = .next { s with rc := .invalidInput, es := true } ∧
      exec .getshBE s = .next { s with rc := .invalidInput, es := true })

/-- 41_extract.md R131: `GETIP.k`: the selector before the bounds, natural octet order for kinds 0 and 1, the order
(1, 0, 3, 2) for kinds 2 and 3, first reported octet on top; in bounds kinds 0 and 1 are `GETW.BE`, kinds 2 and 3
`GETW.BE` then `PSWAP`. -/
def Obligations.GetipOrdersOctets : Prop :=
  (∀ k : BitVec 4, decode (BitVec.ofNat 32 (0x14 + 4096 * k.toNat)) = .instr (.getip k)) ∧
  ∀ (s : State) (k : BitVec 4),
    let b0 := (s.pktByte s.off.toNat).toNat
    let b1 := (s.pktByte (s.off.toNat + 1)).toNat
    let b2 := (s.pktByte (s.off.toNat + 2)).toNat
    let b3 := (s.pktByte (s.off.toNat + 3)).toNat
    (4 ≤ k.toNat → exec (.getip k) s = .next { s with rc := .unknownSelector, es := true }) ∧
    (k.toNat < 4 → s.plen.toNat < s.off.toNat + 4 ∨ 65536 < s.plen.toNat →
      exec (.getip k) s = .next { s with rc := .invalidInput, es := true }) ∧
    (k.toNat < 2 → s.off.toNat + 4 ≤ s.plen.toNat → s.plen.toNat ≤ 65536 →
      exec (.getip k) s = .next { s with
        val := BitVec.ofNat 32 (b0 * 16777216 + b1 * 65536 + b2 * 256 + b3), rc := .ok } ∧
      exec (.getip k) s = exec .getwBE s) ∧
    (2 ≤ k.toNat → k.toNat < 4 → s.off.toNat + 4 ≤ s.plen.toNat → s.plen.toNat ≤ 65536 →
      exec (.getip k) s = .next { s with
        val := BitVec.ofNat 32 (b1 * 16777216 + b0 * 65536 + b3 * 256 + b2), rc := .ok } ∧
      exec (.getip k) s = thenExec (exec .getwBE s) .pswap)

/-- 41_extract.md R132: `GETDIO.n`: bit `n mod 8` of byte `n div 8` of a two-byte field; every selector is a
line. -/
def Obligations.GetdioReadsLine : Prop :=
  (∀ n : BitVec 4, decode (BitVec.ofNat 32 (0x15 + 4096 * n.toNat)) = .instr (.getdio n)) ∧
  ∀ (s : State) (n : BitVec 4),
    (s.off.toNat + 2 ≤ s.plen.toNat ∧ s.plen.toNat ≤ 65536 →
      exec (.getdio n) s = .next { s with
        val := BitVec.ofNat 32 ((s.pktByte (s.off.toNat + n.toNat / 8)).toNat / 2 ^ (n.toNat % 8) % 2),
        rc := .ok }) ∧
    (s.plen.toNat < s.off.toNat + 2 ∨ 65536 < s.plen.toNat →
      exec (.getdio n) s = .next { s with rc := .invalidInput, es := true })

/-! ## The datapath family (42_datapath.md) -/

/-- 42_datapath.md R141, R142, R143, R144: the four swaps by their bytes; each writes `VAL` and `RC` alone, cannot
fail, and twice restores `VAL`; `PSWAP` is `HSWAP` and `BSWAP32` in either order. -/
def Obligations.SwapsPermuteBytes : Prop :=
  decode 0x00000020#32 = .instr .bswap16 ∧ decode 0x00000021#32 = .instr .bswap32 ∧
  decode 0x00000022#32 = .instr .hswap ∧ decode 0x00000023#32 = .instr .pswap ∧
  ∀ s : State,
    let b3 := s.val.toNat / 16777216
    let b2 := s.val.toNat / 65536 % 256
    let b1 := s.val.toNat / 256 % 256
    let b0 := s.val.toNat % 256
    exec .bswap16 s = .next { s with
      val := BitVec.ofNat 32 (b3 * 16777216 + b2 * 65536 + b0 * 256 + b1), rc := .ok } ∧
    exec .bswap32 s = .next { s with
      val := BitVec.ofNat 32 (b0 * 16777216 + b1 * 65536 + b2 * 256 + b3), rc := .ok } ∧
    exec .hswap s = .next { s with
      val := BitVec.ofNat 32 (b1 * 16777216 + b0 * 65536 + b3 * 256 + b2), rc := .ok } ∧
    exec .pswap s = .next { s with
      val := BitVec.ofNat 32 (b2 * 16777216 + b3 * 65536 + b0 * 256 + b1), rc := .ok } ∧
    (∀ i ∈ [Instr.bswap16, .bswap32, .hswap, .pswap], thenExec (exec i s) i = .next { s with rc := .ok }) ∧
    thenExec (exec .bswap32 s) .hswap = exec .pswap s ∧ thenExec (exec .hswap s) .bswap32 = exec .pswap s

/-- 42_datapath.md R145: `SEXT16` gives the signed value of the low half and discards the upper half; twice is
once. -/
def Obligations.Sext16SignExtends : Prop :=
  decode 0x00000024#32 = .instr .sext16 ∧
  (∀ s : State,
    let v : Int := (s.val.toNat % 65536 : Nat)
    exec .sext16 s = .next { s with val := BitVec.ofInt 32 (if v < 32768 then v else v - 65536), rc := .ok }) ∧
  (∀ s : State, thenExec (exec .sext16 s) .sext16 = exec .sext16 s)

/-- 42_datapath.md R149: the identities among the datapath and extract commands. -/
def Obligations.DatapathIdentities : Prop :=
  (∀ s : State, ∀ i ∈ [Instr.bswap16, .bswap32, .hswap, .pswap],
    thenExec (exec i s) i = .next { s with rc := .ok }) ∧
  (∀ s : State, ∀ i ∈ [Instr.bswap16, .bswap32, .hswap, .pswap],
    ∀ j ∈ [Instr.bswap16, .bswap32, .hswap, .pswap],
    ¬ (i = .bswap16 ∧ (j = .hswap ∨ j = .bswap32)) → ¬ (j = .bswap16 ∧ (i = .hswap ∨ i = .bswap32)) →
      thenExec (exec i s) j = thenExec (exec j s) i) ∧
  (∃ s : State, thenExec (exec .bswap16 s) .hswap ≠ thenExec (exec .hswap s) .bswap16) ∧
  (∃ s : State, thenExec (exec .bswap16 s) .bswap32 ≠ thenExec (exec .bswap32 s) .bswap16) ∧
  (∀ s : State, thenExec (exec .hswap s) .bswap32 = exec .pswap s) ∧
  (∀ s : State, s.off.toNat + 2 ≤ s.plen.toNat → s.plen.toNat ≤ 65536 →
    thenExec (exec .gethLE s) .bswap16 = exec .gethBE s ∧
    thenExec (exec .gethT s) .sext16 = exec .getshT s ∧
    thenExec (exec .gethLE s) .sext16 = exec .getshLE s ∧
    thenExec (exec .gethBE s) .sext16 = exec .getshBE s) ∧
  (∀ s : State, s.off.toNat + 4 ≤ s.plen.toNat → s.plen.toNat ≤ 65536 →
    thenExec (exec .getwLE s) .bswap32 = exec .getwBE s ∧ exec (.getip 0) s = exec .getwBE s ∧
    thenExec (exec .getwBE s) .pswap = exec (.getip 2) s ∧
    thenExec (exec .getwLE s) .hswap = exec (.getip 2) s)

/-- 42_datapath.md R147: the binary32 reading, by the sign, exponent and fraction of the word. -/
def Obligations.Binary32Reading : Prop :=
  (∀ w : Word,
    let sign : ℚ := if w.toNat / 2147483648 = 1 then -1 else 1
    let e := w.toNat / 8388608 % 256
    let f := w.toNat % 8388608
    (e = 255 → f ≠ 0 → f32OfBits w = .nan w) ∧
    (e = 255 → f = 0 → f32OfBits w = .infinity (decide (w.toNat / 2147483648 = 1))) ∧
    (e = 0 → (f32OfBits w).value? = some (sign * f * (2 : ℚ) ^ (-149 : Int))) ∧
    (e = 0 → f = 0 → f32OfBits w = .finite (decide (w.toNat / 2147483648 = 1)) 0 (-149)) ∧
    (0 < e → e < 255 →
      (f32OfBits w).value? = some (sign * (2 ^ 23 + f) * (2 : ℚ) ^ ((e : Int) - 150)))) ∧
  (f32OfBits 0x3F800000#32).value? = some 1

/-- 42_datapath.md R146: the reading loses nothing: different words are different data (NaN payloads, signed zeros
and subnormals among them), and what `GETW.T` delivers reads as the word that is in the packet. -/
def Obligations.Binary32ReadingLosesNothing : Prop :=
  (∀ w w' : Word, f32OfBits w = f32OfBits w' → w = w') ∧
  (∀ s t : State, exec .getwT s = .next t → t.rc = .ok →
    t.valFloat = f32OfBits (BitVec.ofNat 32 ((s.pktByte (s.off.toNat + 3)).toNat * 16777216
      + (s.pktByte (s.off.toNat + 2)).toNat * 65536 + (s.pktByte (s.off.toNat + 1)).toNat * 256
      + (s.pktByte s.off.toNat).toNat)))

/-! ## The validator family (43_validate.md) -/

/-- 43_validate.md R161: `M4SYNC` compares the last four bytes of the 64-byte header with the sync word and writes
`MATCH` and `RC` alone. -/
def Obligations.M4syncComparesSyncWord : Prop :=
  decode 0x00000030#32 = .instr .m4sync ∧
  ∀ s : State,
    let equal := s.pktByte (s.off.toNat + 60) = Config.m4Sync.b0 ∧
      s.pktByte (s.off.toNat + 61) = Config.m4Sync.b1 ∧ s.pktByte (s.off.toNat + 62) = Config.m4Sync.b2 ∧
      s.pktByte (s.off.toNat + 63) = Config.m4Sync.b3
    (s.plen.toNat < s.off.toNat + 64 ∨ 65536 < s.plen.toNat →
      exec .m4sync s = .next { s with rc := .invalidInput, es := true }) ∧
    (s.off.toNat + 64 ≤ s.plen.toNat → s.plen.toNat ≤ 65536 → equal →
      exec .m4sync s = .next { s with matched := true, rc := .ok }) ∧
    (s.off.toNat + 64 ≤ s.plen.toNat → s.plen.toNat ≤ 65536 → ¬ equal →
      exec .m4sync s = .next { s with matched := false, rc := .corrupt })

/-- 43_validate.md R162: `M4CRC` leaves the CRC of the 8-byte span in `CRC`, the little-endian field in `VAL`, and
their comparison in `MATCH` and `RC`. -/
def Obligations.M4crcComparesHeaderCrc : Prop :=
  decode 0x00000031#32 = .instr .m4crc ∧
  ∀ s : State,
    let table := if s.tv then s.tbl else crcTable Config.crc16Poly
    let bytes := (List.range 8).map fun k => s.pktByte (s.off.toNat + k)
    let c := bytes.foldl (crcStep table) Config.crc16Init
    let f := (s.pktByte (s.off.toNat + Config.m4CrcOff.val + 1)).toNat * 256
      + (s.pktByte (s.off.toNat + Config.m4CrcOff.val)).toNat
    (s.plen.toNat < s.off.toNat + 64 ∨ 65536 < s.plen.toNat →
      exec .m4crc s = .next { s with rc := .invalidInput, es := true }) ∧
    (s.off.toNat + 64 ≤ s.plen.toNat → s.plen.toNat ≤ 65536 →
      exec .m4crc s = .next { s with
        tbl := table, tv := true, crc := c, val := BitVec.ofNat 32 f, matched := decide (c.toNat = f),
        rc := if c.toNat = f then .ok else .corrupt })

/-- 43_validate.md R162, corner cases: `M4CRC` does what `CRC16` with `LEN = 8`, `GETH.LE` at the field and
`CRCCMP` do, but for `OFF` and `LEN`. -/
def Obligations.M4crcEqualsSequence : Prop :=
  ∀ s t : State, s.off.toNat + 64 ≤ s.plen.toNat → s.plen.toNat ≤ 65536 → exec .m4crc s = .next t →
    ∃ u v : State, exec .crc16 { s with len := 8 } = .next u ∧
      exec .gethLE { u with off := BitVec.ofNat 16 (s.off.toNat + Config.m4CrcOff.val) } = .next v ∧
      exec .crccmp v = .next { t with
        off := BitVec.ofNat 16 (s.off.toNat + Config.m4CrcOff.val), len := 8 }

/-- 43_validate.md R161, R162, corner cases: only the sync bytes decide `M4SYNC`, only the eight bytes of the span
and the two of the field decide `M4CRC`: any other packet with these bytes gives the same outcome. -/
def Obligations.VerdictsDependOnTheirBytesOnly : Prop :=
  ∀ (s : State) (m : Memory),
    ((∀ j : Nat, j < 4 → ({ s with pkt := m } : State).pktByte (s.off.toNat + 60 + j)
        = s.pktByte (s.off.toNat + 60 + j)) →
      exec .m4sync { s with pkt := m } = mapNext (fun t => { t with pkt := m }) (exec .m4sync s)) ∧
    ((∀ j : Nat, j < 8 ∨ j = Config.m4CrcOff.val ∨ j = Config.m4CrcOff.val + 1 →
        ({ s with pkt := m } : State).pktByte (s.off.toNat + j) = s.pktByte (s.off.toNat + j)) →
      exec .m4crc { s with pkt := m } = mapNext (fun t => { t with pkt := m }) (exec .m4crc s))

/-! ## Host scripts (30_encoding.md) -/

/-- 30_encoding.md R80 (`pkt`): running a well-formed `pkt` line stores its bytes in ascending order from its
offset and changes no other byte and no register. -/
def Obligations.ScriptPktStoresBytes : Prop :=
  ∀ (s : State) (a : Nat) (bytes : List Byte) (rest : List Transaction),
    (ScriptLine.pkt a bytes).wf = true → s.port = (ScriptLine.pkt a bytes).expand ++ rest →
      ∃ t : State, Sys2Proof.core.run bytes.length s = .next t ∧ t = { s with port := rest, pkt := t.pkt } ∧
        ∀ b : Nat, t.pktByte b = if a ≤ b ∧ b < a + bytes.length then byteAt bytes (b - a) else s.pktByte b

/-- 30_encoding.md R81: the pseudo-commands are their fixed expansions, with the command words of R76. -/
def Obligations.PseudoCommandExpansions : Prop :=
  ScriptLine.getfT.expand = [.regWrite .cmd 0x00000012#32] ∧
  ScriptLine.getfLE.expand = [.regWrite .cmd 0x00000112#32] ∧
  ScriptLine.getfBE.expand = [.regWrite .cmd 0x00000212#32] ∧
  (∀ o n : Word, (ScriptLine.crcof o n).expand
    = [.regWrite .off o, .regWrite .len n, .regWrite .cmd 0x00000002#32]) ∧
  (∀ (i : Instr) (o : Word), decode (encode i) = .instr i ∧
    (ScriptLine.get i o).expand = [.regWrite .off o, .regWrite .cmd (encode i)]) ∧
  (∀ o : Word, (ScriptLine.m4check o).expand
    = [.regWrite .off o, .regWrite .cmd 0x00000030#32, .regWrite .cmd 0x00000031#32]) ∧
  (∀ (a : Nat) (bytes : List Byte) (n : Word), (ScriptLine.load a bytes n).expand
    = (ScriptLine.pkt a bytes).expand ++ [.regWrite .plen n])
end

