-- ==== Sys2Proof/Laws/State.lean ====
section
/-! SUPPORT. For every update of the state, what it does to every field, and to the reads that look at fields:
one lemma each, so that no later proof unfolds an update. -/

namespace Sys2Proof.Machine

namespace State

/-! ### `setVal` -/

@[simp] theorem setVal_pkt (s : State) (v : Word) : (s.setVal v).pkt = s.pkt := rfl
@[simp] theorem setVal_plen (s : State) (v : Word) : (s.setVal v).plen = s.plen := rfl
@[simp] theorem setVal_off (s : State) (v : Word) : (s.setVal v).off = s.off := rfl
@[simp] theorem setVal_len (s : State) (v : Word) : (s.setVal v).len = s.len := rfl
@[simp] theorem setVal_val (s : State) (v : Word) : (s.setVal v).val = v := rfl
@[simp] theorem setVal_crc (s : State) (v : Word) : (s.setVal v).crc = s.crc := rfl
@[simp] theorem setVal_tbl (s : State) (v : Word) : (s.setVal v).tbl = s.tbl := rfl
@[simp] theorem setVal_tv (s : State) (v : Word) : (s.setVal v).tv = s.tv := rfl
@[simp] theorem setVal_matched (s : State) (v : Word) : (s.setVal v).matched = s.matched := rfl
@[simp] theorem setVal_es (s : State) (v : Word) : (s.setVal v).es = s.es := rfl
@[simp] theorem setVal_rc (s : State) (v : Word) : (s.setVal v).rc = s.rc := rfl
@[simp] theorem setVal_tbo (s : State) (v : Word) : (s.setVal v).tbo = s.tbo := rfl
@[simp] theorem setVal_port (s : State) (v : Word) : (s.setVal v).port = s.port := rfl
@[simp] theorem setVal_reads (s : State) (v : Word) : (s.setVal v).reads = s.reads := rfl
@[simp] theorem setVal_resets (s : State) (v : Word) : (s.setVal v).resets = s.resets := rfl
@[simp] theorem setVal_pktByte (s : State) (v : Word) (x : Nat) : (s.setVal v).pktByte x = s.pktByte x := rfl
@[simp] theorem setVal_inb (s : State) (v : Word) (o n : Nat) : (s.setVal v).inb o n = s.inb o n := rfl
@[simp] theorem setVal_pktBytes (s : State) (v : Word) (o n : Nat) : (s.setVal v).pktBytes o n = s.pktBytes o n := rfl

/-! ### `setCrc` -/

@[simp] theorem setCrc_pkt (s : State) (v : Half) : (s.setCrc v).pkt = s.pkt := rfl
@[simp] theorem setCrc_plen (s : State) (v : Half) : (s.setCrc v).plen = s.plen := rfl
@[simp] theorem setCrc_off (s : State) (v : Half) : (s.setCrc v).off = s.off := rfl
@[simp] theorem setCrc_len (s : State) (v : Half) : (s.setCrc v).len = s.len := rfl
@[simp] theorem setCrc_val (s : State) (v : Half) : (s.setCrc v).val = s.val := rfl
@[simp] theorem setCrc_crc (s : State) (v : Half) : (s.setCrc v).crc = v := rfl
@[simp] theorem setCrc_tbl (s : State) (v : Half) : (s.setCrc v).tbl = s.tbl := rfl
@[simp] theorem setCrc_tv (s : State) (v : Half) : (s.setCrc v).tv = s.tv := rfl
@[simp] theorem setCrc_matched (s : State) (v : Half) : (s.setCrc v).matched = s.matched := rfl
@[simp] theorem setCrc_es (s : State) (v : Half) : (s.setCrc v).es = s.es := rfl
@[simp] theorem setCrc_rc (s : State) (v : Half) : (s.setCrc v).rc = s.rc := rfl
@[simp] theorem setCrc_tbo (s : State) (v : Half) : (s.setCrc v).tbo = s.tbo := rfl
@[simp] theorem setCrc_port (s : State) (v : Half) : (s.setCrc v).port = s.port := rfl
@[simp] theorem setCrc_reads (s : State) (v : Half) : (s.setCrc v).reads = s.reads := rfl
@[simp] theorem setCrc_resets (s : State) (v : Half) : (s.setCrc v).resets = s.resets := rfl
@[simp] theorem setCrc_pktByte (s : State) (v : Half) (x : Nat) : (s.setCrc v).pktByte x = s.pktByte x := rfl
@[simp] theorem setCrc_inb (s : State) (v : Half) (o n : Nat) : (s.setCrc v).inb o n = s.inb o n := rfl
@[simp] theorem setCrc_pktBytes (s : State) (v : Half) (o n : Nat) : (s.setCrc v).pktBytes o n = s.pktBytes o n := rfl

/-! ### `setOff` -/

@[simp] theorem setOff_pkt (s : State) (w : Word) : (s.setOff w).pkt = s.pkt := rfl
@[simp] theorem setOff_plen (s : State) (w : Word) : (s.setOff w).plen = s.plen := rfl
@[simp] theorem setOff_off (s : State) (w : Word) : (s.setOff w).off = w.setWidth 16 := rfl
@[simp] theorem setOff_len (s : State) (w : Word) : (s.setOff w).len = s.len := rfl
@[simp] theorem setOff_val (s : State) (w : Word) : (s.setOff w).val = s.val := rfl
@[simp] theorem setOff_crc (s : State) (w : Word) : (s.setOff w).crc = s.crc := rfl
@[simp] theorem setOff_tbl (s : State) (w : Word) : (s.setOff w).tbl = s.tbl := rfl
@[simp] theorem setOff_tv (s : State) (w : Word) : (s.setOff w).tv = s.tv := rfl
@[simp] theorem setOff_matched (s : State) (w : Word) : (s.setOff w).matched = s.matched := rfl
@[simp] theorem setOff_es (s : State) (w : Word) : (s.setOff w).es = s.es := rfl
@[simp] theorem setOff_rc (s : State) (w : Word) : (s.setOff w).rc = s.rc := rfl
@[simp] theorem setOff_tbo (s : State) (w : Word) : (s.setOff w).tbo = s.tbo := rfl
@[simp] theorem setOff_port (s : State) (w : Word) : (s.setOff w).port = s.port := rfl
@[simp] theorem setOff_reads (s : State) (w : Word) : (s.setOff w).reads = s.reads := rfl
@[simp] theorem setOff_resets (s : State) (w : Word) : (s.setOff w).resets = s.resets := rfl
@[simp] theorem setOff_pktByte (s : State) (w : Word) (x : Nat) : (s.setOff w).pktByte x = s.pktByte x := rfl
@[simp] theorem setOff_inb (s : State) (w : Word) (o n : Nat) : (s.setOff w).inb o n = s.inb o n := rfl
@[simp] theorem setOff_pktBytes (s : State) (w : Word) (o n : Nat) : (s.setOff w).pktBytes o n = s.pktBytes o n := rfl

/-! ### `setLen` -/

@[simp] theorem setLen_pkt (s : State) (w : Word) : (s.setLen w).pkt = s.pkt := rfl
@[simp] theorem setLen_plen (s : State) (w : Word) : (s.setLen w).plen = s.plen := rfl
@[simp] theorem setLen_off (s : State) (w : Word) : (s.setLen w).off = s.off := rfl
@[simp] theorem setLen_len (s : State) (w : Word) : (s.setLen w).len = w.setWidth 17 := rfl
@[simp] theorem setLen_val (s : State) (w : Word) : (s.setLen w).val = s.val := rfl
@[simp] theorem setLen_crc (s : State) (w : Word) : (s.setLen w).crc = s.crc := rfl
@[simp] theorem setLen_tbl (s : State) (w : Word) : (s.setLen w).tbl = s.tbl := rfl
@[simp] theorem setLen_tv (s : State) (w : Word) : (s.setLen w).tv = s.tv := rfl
@[simp] theorem setLen_matched (s : State) (w : Word) : (s.setLen w).matched = s.matched := rfl
@[simp] theorem setLen_es (s : State) (w : Word) : (s.setLen w).es = s.es := rfl
@[simp] theorem setLen_rc (s : State) (w : Word) : (s.setLen w).rc = s.rc := rfl
@[simp] theorem setLen_tbo (s : State) (w : Word) : (s.setLen w).tbo = s.tbo := rfl
@[simp] theorem setLen_port (s : State) (w : Word) : (s.setLen w).port = s.port := rfl
@[simp] theorem setLen_reads (s : State) (w : Word) : (s.setLen w).reads = s.reads := rfl
@[simp] theorem setLen_resets (s : State) (w : Word) : (s.setLen w).resets = s.resets := rfl
@[simp] theorem setLen_pktByte (s : State) (w : Word) (x : Nat) : (s.setLen w).pktByte x = s.pktByte x := rfl
@[simp] theorem setLen_inb (s : State) (w : Word) (o n : Nat) : (s.setLen w).inb o n = s.inb o n := rfl
@[simp] theorem setLen_pktBytes (s : State) (w : Word) (o n : Nat) : (s.setLen w).pktBytes o n = s.pktBytes o n := rfl

/-! ### `setPlen` -/

@[simp] theorem setPlen_pkt (s : State) (w : Word) : (s.setPlen w).pkt = s.pkt := rfl
@[simp] theorem setPlen_plen (s : State) (w : Word) : (s.setPlen w).plen = w.setWidth 17 := rfl
@[simp] theorem setPlen_off (s : State) (w : Word) : (s.setPlen w).off = s.off := rfl
@[simp] theorem setPlen_len (s : State) (w : Word) : (s.setPlen w).len = s.len := rfl
@[simp] theorem setPlen_val (s : State) (w : Word) : (s.setPlen w).val = s.val := rfl
@[simp] theorem setPlen_crc (s : State) (w : Word) : (s.setPlen w).crc = s.crc := rfl
@[simp] theorem setPlen_tbl (s : State) (w : Word) : (s.setPlen w).tbl = s.tbl := rfl
@[simp] theorem setPlen_tv (s : State) (w : Word) : (s.setPlen w).tv = s.tv := rfl
@[simp] theorem setPlen_matched (s : State) (w : Word) : (s.setPlen w).matched = s.matched := rfl
@[simp] theorem setPlen_es (s : State) (w : Word) : (s.setPlen w).es = s.es := rfl
@[simp] theorem setPlen_rc (s : State) (w : Word) : (s.setPlen w).rc = s.rc := rfl
@[simp] theorem setPlen_tbo (s : State) (w : Word) : (s.setPlen w).tbo = s.tbo := rfl
@[simp] theorem setPlen_port (s : State) (w : Word) : (s.setPlen w).port = s.port := rfl
@[simp] theorem setPlen_reads (s : State) (w : Word) : (s.setPlen w).reads = s.reads := rfl
@[simp] theorem setPlen_resets (s : State) (w : Word) : (s.setPlen w).resets = s.resets := rfl
@[simp] theorem setPlen_pktByte (s : State) (w : Word) (x : Nat) : (s.setPlen w).pktByte x = s.pktByte x := rfl
@[simp] theorem setPlen_pktBytes (s : State) (w : Word) (o n : Nat) : (s.setPlen w).pktBytes o n = s.pktBytes o n := rfl

/-! ### `respond` -/

@[simp] theorem respond_pkt (s : State) (r : Response) : (s.respond r).pkt = s.pkt := rfl
@[simp] theorem respond_plen (s : State) (r : Response) : (s.respond r).plen = s.plen := rfl
@[simp] theorem respond_off (s : State) (r : Response) : (s.respond r).off = s.off := rfl
@[simp] theorem respond_len (s : State) (r : Response) : (s.respond r).len = s.len := rfl
@[simp] theorem respond_val (s : State) (r : Response) : (s.respond r).val = s.val := rfl
@[simp] theorem respond_crc (s : State) (r : Response) : (s.respond r).crc = s.crc := rfl
@[simp] theorem respond_tbl (s : State) (r : Response) : (s.respond r).tbl = s.tbl := rfl
@[simp] theorem respond_tv (s : State) (r : Response) : (s.respond r).tv = s.tv := rfl
@[simp] theorem respond_matched (s : State) (r : Response) : (s.respond r).matched = s.matched := rfl
@[simp] theorem respond_es (s : State) (r : Response) : (s.respond r).es = s.es := rfl
@[simp] theorem respond_rc (s : State) (r : Response) : (s.respond r).rc = s.rc := rfl
@[simp] theorem respond_tbo (s : State) (r : Response) : (s.respond r).tbo = s.tbo := rfl
@[simp] theorem respond_port (s : State) (r : Response) : (s.respond r).port = s.port := rfl
@[simp] theorem respond_reads (s : State) (r : Response) : (s.respond r).reads = r :: s.reads := rfl
@[simp] theorem respond_resets (s : State) (r : Response) : (s.respond r).resets = s.resets := rfl
@[simp] theorem respond_pktByte (s : State) (r : Response) (x : Nat) : (s.respond r).pktByte x = s.pktByte x := rfl
@[simp] theorem respond_inb (s : State) (r : Response) (o n : Nat) : (s.respond r).inb o n = s.inb o n := rfl
@[simp] theorem respond_pktBytes (s : State) (r : Response) (o n : Nat) : (s.respond r).pktBytes o n = s.pktBytes o n := rfl

/-! ### `memWrite` -/

@[simp] theorem memWrite_pkt (s : State) (a : Half) (v : Byte) : (s.memWrite a v).pkt = s.pkt.set a.toNat v := rfl
@[simp] theorem memWrite_plen (s : State) (a : Half) (v : Byte) : (s.memWrite a v).plen = s.plen := rfl
@[simp] theorem memWrite_off (s : State) (a : Half) (v : Byte) : (s.memWrite a v).off = s.off := rfl
@[simp] theorem memWrite_len (s : State) (a : Half) (v : Byte) : (s.memWrite a v).len = s.len := rfl
@[simp] theorem memWrite_val (s : State) (a : Half) (v : Byte) : (s.memWrite a v).val = s.val := rfl
@[simp] theorem memWrite_crc (s : State) (a : Half) (v : Byte) : (s.memWrite a v).crc = s.crc := rfl
@[simp] theorem memWrite_tbl (s : State) (a : Half) (v : Byte) : (s.memWrite a v).tbl = s.tbl := rfl
@[simp] theorem memWrite_tv (s : State) (a : Half) (v : Byte) : (s.memWrite a v).tv = s.tv := rfl
@[simp] theorem memWrite_matched (s : State) (a : Half) (v : Byte) : (s.memWrite a v).matched = s.matched := rfl
@[simp] theorem memWrite_es (s : State) (a : Half) (v : Byte) : (s.memWrite a v).es = s.es := rfl
@[simp] theorem memWrite_rc (s : State) (a : Half) (v : Byte) : (s.memWrite a v).rc = s.rc := rfl
@[simp] theorem memWrite_tbo (s : State) (a : Half) (v : Byte) : (s.memWrite a v).tbo = s.tbo := rfl
@[simp] theorem memWrite_port (s : State) (a : Half) (v : Byte) : (s.memWrite a v).port = s.port := rfl
@[simp] theorem memWrite_reads (s : State) (a : Half) (v : Byte) : (s.memWrite a v).reads = s.reads := rfl
@[simp] theorem memWrite_resets (s : State) (a : Half) (v : Byte) : (s.memWrite a v).resets = s.resets := rfl
@[simp] theorem memWrite_inb (s : State) (a : Half) (v : Byte) (o n : Nat) : (s.memWrite a v).inb o n = s.inb o n := rfl

/-! ### `done` -/

@[simp] theorem done_pkt (s : State) : (s.done).pkt = s.pkt := rfl
@[simp] theorem done_plen (s : State) : (s.done).plen = s.plen := rfl
@[simp] theorem done_off (s : State) : (s.done).off = s.off := rfl
@[simp] theorem done_len (s : State) : (s.done).len = s.len := rfl
@[simp] theorem done_val (s : State) : (s.done).val = s.val := rfl
@[simp] theorem done_crc (s : State) : (s.done).crc = s.crc := rfl
@[simp] theorem done_tbl (s : State) : (s.done).tbl = s.tbl := rfl
@[simp] theorem done_tv (s : State) : (s.done).tv = s.tv := rfl
@[simp] theorem done_matched (s : State) : (s.done).matched = s.matched := rfl
@[simp] theorem done_es (s : State) : (s.done).es = s.es := rfl
@[simp] theorem done_rc (s : State) : (s.done).rc = .ok := rfl
@[simp] theorem done_tbo (s : State) : (s.done).tbo = s.tbo := rfl
@[simp] theorem done_port (s : State) : (s.done).port = s.port := rfl
@[simp] theorem done_reads (s : State) : (s.done).reads = s.reads := rfl
@[simp] theorem done_resets (s : State) : (s.done).resets = s.resets := rfl
@[simp] theorem done_pktByte (s : State) (x : Nat) : (s.done).pktByte x = s.pktByte x := rfl
@[simp] theorem done_inb (s : State) (o n : Nat) : (s.done).inb o n = s.inb o n := rfl
@[simp] theorem done_pktBytes (s : State) (o n : Nat) : (s.done).pktBytes o n = s.pktBytes o n := rfl

/-! ### `fail` -/

@[simp] theorem fail_pkt (s : State) (c : ResultCode) : (s.fail c).pkt = s.pkt := rfl
@[simp] theorem fail_plen (s : State) (c : ResultCode) : (s.fail c).plen = s.plen := rfl
@[simp] theorem fail_off (s : State) (c : ResultCode) : (s.fail c).off = s.off := rfl
@[simp] theorem fail_len (s : State) (c : ResultCode) : (s.fail c).len = s.len := rfl
@[simp] theorem fail_val (s : State) (c : ResultCode) : (s.fail c).val = s.val := rfl
@[simp] theorem fail_crc (s : State) (c : ResultCode) : (s.fail c).crc = s.crc := rfl
@[simp] theorem fail_tbl (s : State) (c : ResultCode) : (s.fail c).tbl = s.tbl := rfl
@[simp] theorem fail_tv (s : State) (c : ResultCode) : (s.fail c).tv = s.tv := rfl
@[simp] theorem fail_matched (s : State) (c : ResultCode) : (s.fail c).matched = s.matched := rfl
@[simp] theorem fail_es (s : State) (c : ResultCode) : (s.fail c).es = (s.es || c.isError) := rfl
@[simp] theorem fail_rc (s : State) (c : ResultCode) : (s.fail c).rc = c := rfl
@[simp] theorem fail_tbo (s : State) (c : ResultCode) : (s.fail c).tbo = s.tbo := rfl
@[simp] theorem fail_port (s : State) (c : ResultCode) : (s.fail c).port = s.port := rfl
@[simp] theorem fail_reads (s : State) (c : ResultCode) : (s.fail c).reads = s.reads := rfl
@[simp] theorem fail_resets (s : State) (c : ResultCode) : (s.fail c).resets = s.resets := rfl
@[simp] theorem fail_pktByte (s : State) (c : ResultCode) (x : Nat) : (s.fail c).pktByte x = s.pktByte x := rfl
@[simp] theorem fail_inb (s : State) (c : ResultCode) (o n : Nat) : (s.fail c).inb o n = s.inb o n := rfl
@[simp] theorem fail_pktBytes (s : State) (c : ResultCode) (o n : Nat) : (s.fail c).pktBytes o n = s.pktBytes o n := rfl

/-! ### `verdict` -/

@[simp] theorem verdict_pkt (s : State) (e : Bool) : (s.verdict e).pkt = s.pkt := rfl
@[simp] theorem verdict_plen (s : State) (e : Bool) : (s.verdict e).plen = s.plen := rfl
@[simp] theorem verdict_off (s : State) (e : Bool) : (s.verdict e).off = s.off := rfl
@[simp] theorem verdict_len (s : State) (e : Bool) : (s.verdict e).len = s.len := rfl
@[simp] theorem verdict_val (s : State) (e : Bool) : (s.verdict e).val = s.val := rfl
@[simp] theorem verdict_crc (s : State) (e : Bool) : (s.verdict e).crc = s.crc := rfl
@[simp] theorem verdict_tbl (s : State) (e : Bool) : (s.verdict e).tbl = s.tbl := rfl
@[simp] theorem verdict_tv (s : State) (e : Bool) : (s.verdict e).tv = s.tv := rfl
@[simp] theorem verdict_matched (s : State) (e : Bool) : (s.verdict e).matched = e := rfl
@[simp] theorem verdict_es (s : State) (e : Bool) : (s.verdict e).es = s.es := rfl
@[simp] theorem verdict_rc (s : State) (e : Bool) : (s.verdict e).rc = ResultCode.ofVerdict e := rfl
@[simp] theorem verdict_tbo (s : State) (e : Bool) : (s.verdict e).tbo = s.tbo := rfl
@[simp] theorem verdict_port (s : State) (e : Bool) : (s.verdict e).port = s.port := rfl
@[simp] theorem verdict_reads (s : State) (e : Bool) : (s.verdict e).reads = s.reads := rfl
@[simp] theorem verdict_resets (s : State) (e : Bool) : (s.verdict e).resets = s.resets := rfl
@[simp] theorem verdict_pktByte (s : State) (e : Bool) (x : Nat) : (s.verdict e).pktByte x = s.pktByte x := rfl
@[simp] theorem verdict_inb (s : State) (e : Bool) (o n : Nat) : (s.verdict e).inb o n = s.inb o n := rfl
@[simp] theorem verdict_pktBytes (s : State) (e : Bool) (o n : Nat) : (s.verdict e).pktBytes o n = s.pktBytes o n := rfl

/-! ### `clearSticky` -/

@[simp] theorem clearSticky_pkt (s : State) : (s.clearSticky).pkt = s.pkt := rfl
@[simp] theorem clearSticky_plen (s : State) : (s.clearSticky).plen = s.plen := rfl
@[simp] theorem clearSticky_off (s : State) : (s.clearSticky).off = s.off := rfl
@[simp] theorem clearSticky_len (s : State) : (s.clearSticky).len = s.len := rfl
@[simp] theorem clearSticky_val (s : State) : (s.clearSticky).val = s.val := rfl
@[simp] theorem clearSticky_crc (s : State) : (s.clearSticky).crc = s.crc := rfl
@[simp] theorem clearSticky_tbl (s : State) : (s.clearSticky).tbl = s.tbl := rfl
@[simp] theorem clearSticky_tv (s : State) : (s.clearSticky).tv = s.tv := rfl
@[simp] theorem clearSticky_matched (s : State) : (s.clearSticky).matched = s.matched := rfl
@[simp] theorem clearSticky_es (s : State) : (s.clearSticky).es = false := rfl
@[simp] theorem clearSticky_rc (s : State) : (s.clearSticky).rc = s.rc := rfl
@[simp] theorem clearSticky_tbo (s : State) : (s.clearSticky).tbo = s.tbo := rfl
@[simp] theorem clearSticky_port (s : State) : (s.clearSticky).port = s.port := rfl
@[simp] theorem clearSticky_reads (s : State) : (s.clearSticky).reads = s.reads := rfl
@[simp] theorem clearSticky_resets (s : State) : (s.clearSticky).resets = s.resets := rfl
@[simp] theorem clearSticky_pktByte (s : State) (x : Nat) : (s.clearSticky).pktByte x = s.pktByte x := rfl
@[simp] theorem clearSticky_inb (s : State) (o n : Nat) : (s.clearSticky).inb o n = s.inb o n := rfl
@[simp] theorem clearSticky_pktBytes (s : State) (o n : Nat) : (s.clearSticky).pktBytes o n = s.pktBytes o n := rfl

/-! ### `build` -/

@[simp] theorem build_pkt (s : State) (p : Params) : (s.build p).pkt = s.pkt := rfl
@[simp] theorem build_plen (s : State) (p : Params) : (s.build p).plen = s.plen := rfl
@[simp] theorem build_off (s : State) (p : Params) : (s.build p).off = s.off := rfl
@[simp] theorem build_len (s : State) (p : Params) : (s.build p).len = s.len := rfl
@[simp] theorem build_val (s : State) (p : Params) : (s.build p).val = s.val := rfl
@[simp] theorem build_crc (s : State) (p : Params) : (s.build p).crc = s.crc := rfl
@[simp] theorem build_tbl (s : State) (p : Params) : (s.build p).tbl = crcTable p.crc16Poly := rfl
@[simp] theorem build_tv (s : State) (p : Params) : (s.build p).tv = true := rfl
@[simp] theorem build_matched (s : State) (p : Params) : (s.build p).matched = s.matched := rfl
@[simp] theorem build_es (s : State) (p : Params) : (s.build p).es = s.es := rfl
@[simp] theorem build_rc (s : State) (p : Params) : (s.build p).rc = s.rc := rfl
@[simp] theorem build_tbo (s : State) (p : Params) : (s.build p).tbo = s.tbo := rfl
@[simp] theorem build_port (s : State) (p : Params) : (s.build p).port = s.port := rfl
@[simp] theorem build_reads (s : State) (p : Params) : (s.build p).reads = s.reads := rfl
@[simp] theorem build_resets (s : State) (p : Params) : (s.build p).resets = s.resets := rfl
@[simp] theorem build_pktByte (s : State) (p : Params) (x : Nat) : (s.build p).pktByte x = s.pktByte x := rfl
@[simp] theorem build_inb (s : State) (p : Params) (o n : Nat) : (s.build p).inb o n = s.inb o n := rfl
@[simp] theorem build_pktBytes (s : State) (p : Params) (o n : Nat) : (s.build p).pktBytes o n = s.pktBytes o n := rfl

/-! ### `submitCommand` -/

@[simp] theorem submitCommand_pkt (s : State) (w : Word) : (s.submitCommand w).pkt = s.pkt := rfl
@[simp] theorem submitCommand_plen (s : State) (w : Word) : (s.submitCommand w).plen = s.plen := rfl
@[simp] theorem submitCommand_off (s : State) (w : Word) : (s.submitCommand w).off = s.off := rfl
@[simp] theorem submitCommand_len (s : State) (w : Word) : (s.submitCommand w).len = s.len := rfl
@[simp] theorem submitCommand_val (s : State) (w : Word) : (s.submitCommand w).val = s.val := rfl
@[simp] theorem submitCommand_crc (s : State) (w : Word) : (s.submitCommand w).crc = s.crc := rfl
@[simp] theorem submitCommand_tbl (s : State) (w : Word) : (s.submitCommand w).tbl = s.tbl := rfl
@[simp] theorem submitCommand_tv (s : State) (w : Word) : (s.submitCommand w).tv = s.tv := rfl
@[simp] theorem submitCommand_matched (s : State) (w : Word) : (s.submitCommand w).matched = s.matched := rfl
@[simp] theorem submitCommand_es (s : State) (w : Word) : (s.submitCommand w).es = s.es := rfl
@[simp] theorem submitCommand_rc (s : State) (w : Word) : (s.submitCommand w).rc = s.rc := rfl
@[simp] theorem submitCommand_tbo (s : State) (w : Word) : (s.submitCommand w).tbo = s.tbo := rfl
@[simp] theorem submitCommand_port (s : State) (w : Word) : (s.submitCommand w).port = .regWrite .cmd w :: s.port := rfl
@[simp] theorem submitCommand_reads (s : State) (w : Word) : (s.submitCommand w).reads = s.reads := rfl
@[simp] theorem submitCommand_resets (s : State) (w : Word) : (s.submitCommand w).resets = s.resets := rfl
@[simp] theorem submitCommand_pktByte (s : State) (w : Word) (x : Nat) : (s.submitCommand w).pktByte x = s.pktByte x := rfl
@[simp] theorem submitCommand_inb (s : State) (w : Word) (o n : Nat) : (s.submitCommand w).inb o n = s.inb o n := rfl
@[simp] theorem submitCommand_pktBytes (s : State) (w : Word) (o n : Nat) : (s.submitCommand w).pktBytes o n = s.pktBytes o n := rfl

/-! ### `hReset` -/

@[simp] theorem hReset_pkt (s : State) : (s.hReset).pkt = [] := rfl
@[simp] theorem hReset_plen (s : State) : (s.hReset).plen = 0 := rfl
@[simp] theorem hReset_off (s : State) : (s.hReset).off = 0 := rfl
@[simp] theorem hReset_len (s : State) : (s.hReset).len = 0 := rfl
@[simp] theorem hReset_val (s : State) : (s.hReset).val = 0 := rfl
@[simp] theorem hReset_crc (s : State) : (s.hReset).crc = 0 := rfl
@[simp] theorem hReset_tbl (s : State) : (s.hReset).tbl = Vector.replicate 256 0 := rfl
@[simp] theorem hReset_tv (s : State) : (s.hReset).tv = false := rfl
@[simp] theorem hReset_matched (s : State) : (s.hReset).matched = false := rfl
@[simp] theorem hReset_es (s : State) : (s.hReset).es = false := rfl
@[simp] theorem hReset_rc (s : State) : (s.hReset).rc = .ok := rfl
@[simp] theorem hReset_tbo (s : State) : (s.hReset).tbo = Config.tboStrap := rfl
@[simp] theorem hReset_port (s : State) : (s.hReset).port = s.port := rfl
@[simp] theorem hReset_reads (s : State) : (s.hReset).reads = s.reads := rfl
@[simp] theorem hReset_resets (s : State) : (s.hReset).resets = s.resets + 1 := rfl

/-! ### `ensureTable` -/

@[simp] theorem ensureTable_pkt (s : State) (p : Params) : (s.ensureTable p).pkt = s.pkt := by
  unfold ensureTable; split <;> rfl
@[simp] theorem ensureTable_plen (s : State) (p : Params) : (s.ensureTable p).plen = s.plen := by
  unfold ensureTable; split <;> rfl
@[simp] theorem ensureTable_off (s : State) (p : Params) : (s.ensureTable p).off = s.off := by
  unfold ensureTable; split <;> rfl
@[simp] theorem ensureTable_len (s : State) (p : Params) : (s.ensureTable p).len = s.len := by
  unfold ensureTable; split <;> rfl
@[simp] theorem ensureTable_val (s : State) (p : Params) : (s.ensureTable p).val = s.val := by
  unfold ensureTable; split <;> rfl
@[simp] theorem ensureTable_crc (s : State) (p : Params) : (s.ensureTable p).crc = s.crc := by
  unfold ensureTable; split <;> rfl
theorem ensureTable_tbl (s : State) (p : Params) :
    (s.ensureTable p).tbl = if s.tv then s.tbl else crcTable p.crc16Poly := by
  unfold ensureTable; split <;> rfl
@[simp] theorem ensureTable_tv (s : State) (p : Params) : (s.ensureTable p).tv = true := by
  unfold ensureTable; split
  · assumption
  · rfl
@[simp] theorem ensureTable_matched (s : State) (p : Params) : (s.ensureTable p).matched = s.matched := by
  unfold ensureTable; split <;> rfl
@[simp] theorem ensureTable_es (s : State) (p : Params) : (s.ensureTable p).es = s.es := by
  unfold ensureTable; split <;> rfl
@[simp] theorem ensureTable_rc (s : State) (p : Params) : (s.ensureTable p).rc = s.rc := by
  unfold ensureTable; split <;> rfl
@[simp] theorem ensureTable_tbo (s : State) (p : Params) : (s.ensureTable p).tbo = s.tbo := by
  unfold ensureTable; split <;> rfl
@[simp] theorem ensureTable_port (s : State) (p : Params) : (s.ensureTable p).port = s.port := by
  unfold ensureTable; split <;> rfl
@[simp] theorem ensureTable_reads (s : State) (p : Params) : (s.ensureTable p).reads = s.reads := by
  unfold ensureTable; split <;> rfl
@[simp] theorem ensureTable_resets (s : State) (p : Params) : (s.ensureTable p).resets = s.resets := by
  unfold ensureTable; split <;> rfl

/-- The lazy build changes `TBL` and `TV` alone. -/
theorem ensureTable_eq (s : State) (p : Params) :
    s.ensureTable p = { s with tbl := if s.tv then s.tbl else crcTable p.crc16Poly, tv := true } := by
  obtain ⟨⟩ := s; unfold ensureTable build; split <;> simp_all

/-! ### Whole next states

A next state as one record update. They are proved by cases, not by plain rfl, so that a rewrite by one of them
stays a rewrite and the kernel never compares the new values by evaluation. -/

theorem setVal_done (s : State) (v : Word) : (s.setVal v).done = { s with val := v, rc := .ok } := by
  cases s; rfl

theorem fail_error (s : State) {c : ResultCode} (h : c.isError = true) :
    s.fail c = { s with rc := c, es := true } := by simp [fail, h]

theorem verdict_eq (s : State) (e : Bool) :
    s.verdict e = { s with matched := e, rc := ResultCode.ofVerdict e } := by
  cases s; rfl

theorem build_done (s : State) (p : Params) :
    (s.build p).done = { s with tbl := crcTable p.crc16Poly, tv := true, rc := .ok } := by
  cases s; rfl

theorem clearSticky_done (s : State) : s.clearSticky.done = { s with es := false, rc := .ok } := by
  cases s; rfl

theorem ensureTable_setCrc_done (s : State) (p : Params) (c : Half) :
    ((s.ensureTable p).setCrc c).done =
      { s with tbl := if s.tv then s.tbl else crcTable p.crc16Poly, tv := true, crc := c, rc := .ok } := by
  rw [ensureTable_eq]; rfl

theorem ensureTable_setVal_done (s : State) (p : Params) (v : Word) :
    ((s.ensureTable p).setVal v).done =
      { s with tbl := if s.tv then s.tbl else crcTable p.crc16Poly, tv := true, val := v, rc := .ok } := by
  rw [ensureTable_eq]; rfl

theorem ensureTable_setCrc_setVal_verdict (s : State) (p : Params) (c : Half) (v : Word) (e : Bool) :
    (((s.ensureTable p).setCrc c).setVal v).verdict e =
      { s with tbl := if s.tv then s.tbl else crcTable p.crc16Poly, tv := true, crc := c, val := v,
               matched := e, rc := ResultCode.ofVerdict e } := by
  rw [ensureTable_eq]; rfl

end State

end Sys2Proof.Machine
end

