-- ==== Sys2Proof/Laws/Memory.lean ====
section
/-! SUPPORT. The packet memory: read after write, and every operation keeps the canonical form. -/

namespace Sys2Proof.Machine

/-- A read after a write: the value there, everything else as before. -/
theorem Memory.get?_set (m : Memory) (a b : Nat) (v : Byte) :
    Memory.get? (Memory.set m a v) b = if b = a then some v else Memory.get? m b := by
  induction m with
  | nil => simp [Memory.set, Memory.get?]
  | cons c rest ih =>
    obtain ⟨x, w⟩ := c
    by_cases hlt : a < x
    · simp [Memory.set, hlt, Memory.get?]
    · by_cases heq : a = x
      · subst heq
        by_cases hb : b = a <;> simp [Memory.set, Memory.get?, hb]
      · by_cases hb : b = x
        · subst hb
          simp [Memory.set, hlt, heq, Memory.get?, Ne.symm heq]
        · simp [Memory.set, hlt, heq, Memory.get?, hb, ih]

/-- Every entry of a written memory is the new one or an old one. -/
theorem Memory.mem_set (m : Memory) (a : Nat) (v : Byte) (c : Host.Cell) (h : c ∈ Memory.set m a v) :
    c = (a, v) ∨ c ∈ m := by
  induction m with
  | nil => simpa [Memory.set] using h
  | cons d rest ih =>
    obtain ⟨x, w⟩ := d
    unfold Memory.set at h
    split at h
    · simpa using h
    · split at h
      · simp only [List.mem_cons] at h ⊢
        exact h.imp id Or.inr
      · simp only [List.mem_cons] at h ⊢
        rcases h with h | h
        · exact Or.inr (Or.inl h)
        · exact (ih h).imp id Or.inr

/-- A write inside the buffer keeps the canonical form. -/
theorem Memory.set_wf (m : Memory) (a : Nat) (v : Byte) (hm : Memory.wf m) (ha : a < pktCap) :
    Memory.wf (Memory.set m a v) := by
  refine ⟨?_, fun c hc => ?_⟩
  · obtain ⟨hp, -⟩ := hm
    induction m with
    | nil => simp [Memory.set]
    | cons d rest ih =>
      obtain ⟨x, w⟩ := d
      rw [List.pairwise_cons] at hp
      unfold Memory.set
      split
      · rename_i hlt
        refine List.pairwise_cons.2 ⟨fun y hy => ?_, List.pairwise_cons.2 hp⟩
        rcases List.mem_cons.1 hy with rfl | hy
        · exact hlt
        · exact Nat.lt_trans hlt (hp.1 y hy)
      · split
        · rename_i heq
          subst heq
          exact List.pairwise_cons.2 hp
        · refine List.pairwise_cons.2 ⟨fun y hy => ?_, ih hp.2⟩
          rcases Memory.mem_set rest a v y hy with rfl | hy
          · simp only; omega
          · exact hp.1 y hy
  · rcases Memory.mem_set m a v c hc with rfl | h
    · exact ha
    · exact hm.2 c h

/-- The memory after reset has the canonical form. -/
theorem reset_pkt_wf : Memory.wf State.reset.pkt := by simp [State.reset, Memory.wf]

/-- `HReset` leaves the canonical form. -/
theorem State.hReset_pkt_wf (s : State) : Memory.wf s.hReset.pkt := by simp [Memory.wf]

/-- `HPktWrite` keeps the canonical form. -/
theorem State.memWrite_pkt_wf (s : State) (a : Half) (v : Byte) (h : Memory.wf s.pkt) :
    Memory.wf (s.memWrite a v).pkt := Memory.set_wf _ _ _ h a.isLt

/-- Reading a byte after `HPktWrite`. -/
theorem State.memWrite_pktByte (s : State) (a : Half) (v : Byte) (b : Nat) :
    (s.memWrite a v).pktByte b = if b = a.toNat then v else s.pktByte b := by
  unfold State.pktByte
  rw [State.memWrite_pkt, Memory.get?_set, State.memWrite_resets]
  split <;> rfl

/-- The length of the list of bytes read. -/
@[simp] theorem State.pktBytes_length (s : State) (a n : Nat) : (s.pktBytes a n).length = n := by
  simp [State.pktBytes]

/-- Byte `j` of the list of bytes read. -/
theorem State.byteAt_pktBytes (s : State) (a n j : Nat) (h : j < n) :
    byteAt (s.pktBytes a n) j = s.pktByte (a + j) := by
  simp [byteAt, State.pktBytes, h]

end Sys2Proof.Machine
end

