-- ==== Sys2Proof/Laws/Ops.lean ====
section
/-! SUPPORT. For each shared operation, once, what it can do. Later proofs cite these and do not unfold. -/

namespace Sys2Proof.Machine

/-- The bounds rule as a proposition (spec 00_scope.md R9). -/
theorem State.inb_iff (s : State) (o n : Nat) :
    s.inb o n = true ↔ o + n ≤ s.plen.toNat ∧ s.plen.toNat ≤ 65536 := by simp [State.inb, pktCap]

/-- A span inside a span that is in bounds is in bounds. -/
theorem State.inb_mono (s : State) {o n o' n' : Nat} (h : s.inb o n = true) (hle : o' + n' ≤ o + n) :
    s.inb o' n' = true := by
  rw [State.inb_iff] at h ⊢; omega

/-- `MemRead` of a span in bounds continues with its bytes. -/
theorem State.readSpan_of_inb (s : State) {a n : Nat} (k : List Byte → Result) (h : s.inb a n = true) :
    s.readSpan a n k = k (s.pktBytes a n) := by simp [State.readSpan, h]

/-- `MemRead` of no bytes. -/
theorem State.readSpan_zero (s : State) (a : Nat) (k : List Byte → Result) : s.readSpan a 0 k = k [] := by
  simp [State.readSpan, State.pktBytes]

/-- An entry of the built table (spec 40_crc.md R104). -/
theorem tblAt_crcTable (poly : Half) (i : Byte) : tblAt (crcTable poly) i = tblent poly i.toNat := by
  unfold tblAt crcTable
  exact Vector.getElem_ofFn _

/-- An extract command in bounds. -/
theorem extract_of_inb (n : Nat) (f : List Byte → Word) (s : State) (h : s.inb s.off.toNat n = true) :
    extract n f s = .next ((s.setVal (f (s.pktBytes s.off.toNat n))).done) := by
  simp [extract, h, State.readSpan_of_inb]

/-- An extract command out of bounds. -/
theorem extract_of_not_inb (n : Nat) (f : List Byte → Word) (s : State) (h : s.inb s.off.toNat n = false) :
    extract n f s = .next (s.fail .invalidInput) := by simp [extract, h]

/-- Everything an extract command can do. -/
theorem extract_next {n : Nat} {f : List Byte → Word} {s t : State} (h : extract n f s = .next t) :
    (s.inb s.off.toNat n = true ∧ t = (s.setVal (f (s.pktBytes s.off.toNat n))).done) ∨
      (s.inb s.off.toNat n = false ∧ t = s.fail .invalidInput) := by
  cases hb : s.inb s.off.toNat n with
  | true => rw [extract_of_inb n f s hb] at h; cases h; exact Or.inl ⟨rfl, rfl⟩
  | false => rw [extract_of_not_inb n f s hb] at h; cases h; exact Or.inr ⟨rfl, rfl⟩

/-- `CRC16` on an empty span (spec 40_crc.md R106). -/
theorem crc16With_of_empty (p : Params) (s : State) (h : s.len.toNat = 0) :
    crc16With p s = .next (((s.ensureTable p).setCrc p.crc16Init).done) := by
  simp [crc16With, h, State.readSpan_zero, crcSpan]

/-- `CRC16` on a span in bounds. -/
theorem crc16With_of_inb (p : Params) (s : State) (h : s.inb s.off.toNat s.len.toNat = true) :
    crc16With p s = .next (((s.ensureTable p).setCrc
      (crcSpan (s.ensureTable p).tbl p.crc16Init (s.pktBytes s.off.toNat s.len.toNat))).done) := by
  simp [crc16With, h, State.readSpan_of_inb]

/-- `CRC16` on a span out of bounds. -/
theorem crc16With_of_not_inb (p : Params) (s : State) (hl : 0 < s.len.toNat)
    (h : s.inb s.off.toNat s.len.toNat = false) : crc16With p s = .next (s.fail .invalidInput) := by
  simp [crc16With, h, hl]

/-- Everything `CRC16` can do. -/
theorem crc16With_next {p : Params} {s t : State} (h : crc16With p s = .next t) :
    ((s.len.toNat = 0 ∨ s.inb s.off.toNat s.len.toNat = true) ∧ t = ((s.ensureTable p).setCrc
        (crcSpan (s.ensureTable p).tbl p.crc16Init (s.pktBytes s.off.toNat s.len.toNat))).done) ∨
      (0 < s.len.toNat ∧ s.inb s.off.toNat s.len.toNat = false ∧ t = s.fail .invalidInput) := by
  rcases Nat.eq_zero_or_pos s.len.toNat with hz | hl
  · rw [crc16With_of_empty p s hz] at h
    cases h
    exact Or.inl ⟨Or.inl hz, by simp [hz, State.pktBytes, crcSpan]⟩
  · cases hb : s.inb s.off.toNat s.len.toNat with
    | true => rw [crc16With_of_inb p s hb] at h; cases h; exact Or.inl ⟨Or.inr rfl, rfl⟩
    | false => rw [crc16With_of_not_inb p s hl hb] at h; cases h; exact Or.inr ⟨hl, rfl, rfl⟩

/-- Everything `TBLRD` can do. -/
theorem tblrdWith_next {p : Params} {s t : State} (h : tblrdWith p s = .next t) :
    (s.off.toNat ≤ 255 ∧ t = ((s.ensureTable p).setVal
        (zext32Half (tblAt (s.ensureTable p).tbl (s.off.setWidth 8)))).done) ∨
      (255 < s.off.toNat ∧ t = s.fail .invalidInput) := by
  unfold tblrdWith at h
  split at h
  · rename_i hb; cases h; exact Or.inr ⟨hb, rfl⟩
  · rename_i hb; cases h; exact Or.inl ⟨Nat.le_of_not_lt hb, by simp⟩

/-- `M4SYNC` with the header in bounds. -/
theorem m4syncWith_of_inb (p : Params) (s : State) (h : s.inb s.off.toNat 64 = true) :
    m4syncWith p s = .next (s.verdict (syncMatches p.m4Sync (s.pktBytes (s.off.toNat + 60) 4))) := by
  have h4 : s.inb (s.off.toNat + 60) 4 = true := s.inb_mono h (by omega)
  simp [m4syncWith, m4HdrLen, m4SyncOff, m4SyncLen, h, State.readSpan_of_inb _ _ h4]

/-- `M4SYNC` with the header out of bounds. -/
theorem m4syncWith_of_not_inb (p : Params) (s : State) (h : s.inb s.off.toNat 64 = false) :
    m4syncWith p s = .next (s.fail .invalidInput) := by simp [m4syncWith, m4HdrLen, h]

/-- `M4CRC` with the header in bounds. -/
theorem m4crcWith_of_inb (p : Params) (s : State) (h : s.inb s.off.toNat 64 = true) :
    m4crcWith p s = .next ((((s.ensureTable p).setCrc
        (crcSpan (s.ensureTable p).tbl p.crc16Init (s.pktBytes s.off.toNat 8))).setVal
        (zext32Half (asm16 .le (s.pktBytes (s.off.toNat + p.m4CrcOff.val) 2)))).verdict
        (crcSpan (s.ensureTable p).tbl p.crc16Init (s.pktBytes s.off.toNat 8)
          == asm16 .le (s.pktBytes (s.off.toNat + p.m4CrcOff.val) 2))) := by
  have h8 : s.inb s.off.toNat 8 = true := s.inb_mono h (by omega)
  have h2 : s.inb (s.off.toNat + p.m4CrcOff.val) 2 = true := s.inb_mono h (by omega)
  simp [m4crcWith, m4HdrLen, m4CrcSpan, h, State.readSpan_of_inb _ _ h8, State.readSpan_of_inb _ _ h2]

/-- `M4CRC` with the header out of bounds. -/
theorem m4crcWith_of_not_inb (p : Params) (s : State) (h : s.inb s.off.toNat 64 = false) :
    m4crcWith p s = .next (s.fail .invalidInput) := by simp [m4crcWith, m4HdrLen, h]

/-- A write of `CMD` with a legal word. -/
theorem State.command_of_instr (s : State) {w : Word} {i : Instr} (h : decode w = .instr i) :
    s.command w = exec i s := by simp [State.command, h]

/-- A write of `CMD` with an illegal word. -/
theorem State.command_of_illegal (s : State) {w : Word} {y : Illegal} (h : decode w = .illegal y) :
    s.command w = .next (s.fail .illegalCmd) := by simp [State.command, h]

/-- One step with a transaction pending. -/
theorem step_cons (s : State) {t : Transaction} {rest : List Transaction} (h : s.port = t :: rest) :
    step s = ({ s with port := rest } : State).serve t := by simp [step, State.serveNext, h]

end Sys2Proof.Machine
end

