-- ==== Sys2Proof/Laws/PerInstr.lean ====
section
/-! SUPPORT. Facts about every command as syntax, one lemma per constructor of `Instr`. -/

namespace Sys2Proof.Laws

/-- The reserved bits of a command word are 0 (spec 30_encoding.md R70). -/
def ReservedBits.Statement (i : Instr) : Prop := rsvdHiField (encode i) = 0 ∧ rsvdLoField (encode i) = 0

/-- The reserved fields of a word built from its fields. -/
theorem commandWord_reserved (opc : Byte) (ord : BitVec 2) (sel : BitVec 4) :
    rsvdHiField (commandWord opc ord sel) = 0 ∧ rsvdLoField (commandWord opc ord sel) = 0 := by
  constructor <;>
  · apply BitVec.eq_of_getLsbD_eq
    intro i hi
    simp only [rsvdHiField, rsvdLoField, commandWord, BitVec.getLsbD_extractLsb', BitVec.getLsbD_append]
    interval_cases i <;> simp

theorem ReservedBits.tinit : ReservedBits.Statement .tinit := commandWord_reserved _ _ _
theorem ReservedBits.crc16 : ReservedBits.Statement .crc16 := commandWord_reserved _ _ _
theorem ReservedBits.crccmp : ReservedBits.Statement .crccmp := commandWord_reserved _ _ _
theorem ReservedBits.tblrd : ReservedBits.Statement .tblrd := commandWord_reserved _ _ _
theorem ReservedBits.clrerr : ReservedBits.Statement .clrerr := commandWord_reserved _ _ _
theorem ReservedBits.getb : ReservedBits.Statement .getb := commandWord_reserved _ _ _
theorem ReservedBits.gethT : ReservedBits.Statement .gethT := commandWord_reserved _ _ _
theorem ReservedBits.gethLE : ReservedBits.Statement .gethLE := commandWord_reserved _ _ _
theorem ReservedBits.gethBE : ReservedBits.Statement .gethBE := commandWord_reserved _ _ _
theorem ReservedBits.getwT : ReservedBits.Statement .getwT := commandWord_reserved _ _ _
theorem ReservedBits.getwLE : ReservedBits.Statement .getwLE := commandWord_reserved _ _ _
theorem ReservedBits.getwBE : ReservedBits.Statement .getwBE := commandWord_reserved _ _ _
theorem ReservedBits.getshT : ReservedBits.Statement .getshT := commandWord_reserved _ _ _
theorem ReservedBits.getshLE : ReservedBits.Statement .getshLE := commandWord_reserved _ _ _
theorem ReservedBits.getshBE : ReservedBits.Statement .getshBE := commandWord_reserved _ _ _
theorem ReservedBits.getip (k : BitVec 4) : ReservedBits.Statement (.getip k) := commandWord_reserved _ _ _
theorem ReservedBits.getdio (n : BitVec 4) : ReservedBits.Statement (.getdio n) := commandWord_reserved _ _ _
theorem ReservedBits.bswap16 : ReservedBits.Statement .bswap16 := commandWord_reserved _ _ _
theorem ReservedBits.bswap32 : ReservedBits.Statement .bswap32 := commandWord_reserved _ _ _
theorem ReservedBits.hswap : ReservedBits.Statement .hswap := commandWord_reserved _ _ _
theorem ReservedBits.pswap : ReservedBits.Statement .pswap := commandWord_reserved _ _ _
theorem ReservedBits.sext16 : ReservedBits.Statement .sext16 := commandWord_reserved _ _ _
theorem ReservedBits.m4sync : ReservedBits.Statement .m4sync := commandWord_reserved _ _ _
theorem ReservedBits.m4crc : ReservedBits.Statement .m4crc := commandWord_reserved _ _ _

end Sys2Proof.Laws
end

