-- ==== Sys2Proof/Tests/Slice0.lean ====
section
/-! SUPPORT. The model's own tests. Expected values come from spec 95_test_vectors.md (the vector is named) or are
written out by hand from the encoding of 30_encoding.md. The last part gives a witness for the hypotheses of every
statement that has some. -/

namespace Sys2Proof.Tests

open Sys2Proof.Machine

/-! ## Helpers -/

/-- Test profile A of 95_test_vectors.md section 1. -/
def profileA : Params := ⟨0xA001, 0xFFFF, ⟨0xAA, 0x55, 0x0F, 0xF0⟩, 8⟩

/-- Test profile B of 95_test_vectors.md section 1. -/
def profileB : Params := ⟨0x8408, 0x0000, ⟨0x01, 0x02, 0x03, 0x04⟩, 2⟩

/-- Bytes in the packet from an offset. -/
def packetAt (a : Nat) (bytes : List Byte) : Memory := (List.range bytes.length).zip bytes |>.map fun c => (a + c.1, c.2)

/-- A state after reset with bytes at an offset, `PLEN` and `OFF`. -/
def ready (a : Nat) (bytes : List Byte) (plen : Count) (off : Half) : State :=
  { State.reset with pkt := packetAt a bytes, plen := plen, off := off }

/-- A state after reset with a value in `VAL`. -/
def withVal (v : Word) : State := { State.reset with val := v }

/-- A state after reset with one transaction pending. -/
def pending (t : Transaction) : State := { State.reset with port := [t] }

/-- `VAL` after an outcome. -/
def valOf : Result → Option Word
  | .next t => some t.val
  | .fault _ => none
  | .refused _ => none

/-- `CRC` after an outcome. -/
def crcOf : Result → Option Half
  | .next t => some t.crc
  | .fault _ => none
  | .refused _ => none

/-- `STATUS` after an outcome. -/
def statusOf : Result → Option Word
  | .next t => some t.statusWord
  | .fault _ => none
  | .refused _ => none

/-- `VAL` and `STATUS` after an outcome. -/
def valStatus (r : Result) : Option Word × Option Word := (valOf r, statusOf r)

/-- `CRC`, `VAL` and `STATUS` after an outcome. -/
def crcValStatus (r : Result) : Option Half × Option Word × Option Word := (crcOf r, valOf r, statusOf r)

/-! ## Well-formedness refuses ill-formed terms -/

theorem test_wf_wr_status : (ScriptLine.wr .status 0).wf = false := by decide
theorem test_wf_wr_cmd : (ScriptLine.wr .cmd 1).wf = false := by decide
theorem test_wf_wr_cfg : (ScriptLine.wr .cfg 1).wf = false := by decide
theorem test_wf_wr_crc : (ScriptLine.wr .crc 1).wf = false := by decide
theorem test_wf_wr_off : (ScriptLine.wr .off 1).wf = true := by decide
theorem test_wf_rd_cmd : (ScriptLine.rd .cmd).wf = false := by decide
theorem test_wf_rdpkt_end : (ScriptLine.rdpkt 65536).wf = false ∧ (ScriptLine.rdpkt 65535).wf = true := by decide
theorem test_wf_pkt_end :
    (ScriptLine.pkt 65535 [1, 2]).wf = false ∧ (ScriptLine.pkt 65534 [1, 2]).wf = true := by decide
theorem test_wf_pkt_empty : (ScriptLine.pkt 0 []).wf = false := by decide
theorem test_wf_load_end : (ScriptLine.load 65535 [1, 2] 2).wf = false := by decide
theorem test_wf_load_empty : (ScriptLine.load 0 [] 0).wf = false := by decide
theorem test_wf_get_tinit : (ScriptLine.get .tinit 0).wf = false ∧ (ScriptLine.get .getb 0).wf = true := by decide
theorem test_wf_script_without_reset : scriptWf [.cmd .tinit] = false ∧ scriptWf [] = false := by decide
theorem test_wf_script_bad_line : scriptWf [.reset, .rd .cmd] = false ∧ scriptWf [.reset, .rd .crc] = true := by
  decide
theorem test_wf_bus_packet_word : (BusAccess.read 0x00000#17 .word).wf = false := by decide
theorem test_wf_bus_register_byte : (BusAccess.write 0x10018#17 .byte 0).wf = false := by decide
theorem test_wf_bus_register_misaligned : (BusAccess.read 0x10019#17 .word).wf = false := by decide
theorem test_wf_transaction : (Transaction.bus (.read 0x0FFFF#17 .half)).wf = false ∧
    (Transaction.bus (.read 0x0FFFF#17 .byte)).wf = true := by decide
/-- Every command is well formed: its type leaves no ill-formed one (30_encoding.md R73). -/
theorem test_wf_instr : (Instr.getip 15).wf = true ∧ (Instr.getdio 15).wf = true := by decide
/-- The canonical form refuses a repeated offset, a falling one and one past the buffer. -/
theorem test_wf_memory : ¬ Memory.wf [(1, 0), (1, 0)] ∧ ¬ Memory.wf [(2, 0), (1, 0)] ∧ ¬ Memory.wf [(65536, 0)] ∧
    Memory.wf [(0, 0), (65535, 1)] := by decide

/-! ## Decoding: every row's word, written out bit by bit from 30_encoding.md R70 to R76 (V1)

The fields are `[31:16]`, `SEL`, `[11:10]`, `ORD`, `OPC`. -/

theorem test_decode_tinit : decode 0b0000000000000000_0000_00_00_00000001#32 = .instr .tinit := by decide
theorem test_decode_crc16 : decode 0b0000000000000000_0000_00_00_00000010#32 = .instr .crc16 := by decide
theorem test_decode_crccmp : decode 0b0000000000000000_0000_00_00_00000011#32 = .instr .crccmp := by decide
theorem test_decode_tblrd : decode 0b0000000000000000_0000_00_00_00000100#32 = .instr .tblrd := by decide
theorem test_decode_clrerr : decode 0b0000000000000000_0000_00_00_00000101#32 = .instr .clrerr := by decide
theorem test_decode_getb : decode 0b0000000000000000_0000_00_00_00010000#32 = .instr .getb := by decide
theorem test_decode_gethT : decode 0b0000000000000000_0000_00_00_00010001#32 = .instr .gethT := by decide
theorem test_decode_gethLE : decode 0b0000000000000000_0000_00_01_00010001#32 = .instr .gethLE := by decide
theorem test_decode_gethBE : decode 0b0000000000000000_0000_00_10_00010001#32 = .instr .gethBE := by decide
theorem test_decode_getwT : decode 0b0000000000000000_0000_00_00_00010010#32 = .instr .getwT := by decide
theorem test_decode_getwLE : decode 0b0000000000000000_0000_00_01_00010010#32 = .instr .getwLE := by decide
theorem test_decode_getwBE : decode 0b0000000000000000_0000_00_10_00010010#32 = .instr .getwBE := by decide
theorem test_decode_getshT : decode 0b0000000000000000_0000_00_00_00010011#32 = .instr .getshT := by decide
theorem test_decode_getshLE : decode 0b0000000000000000_0000_00_01_00010011#32 = .instr .getshLE := by decide
theorem test_decode_getshBE : decode 0b0000000000000000_0000_00_10_00010011#32 = .instr .getshBE := by decide
theorem test_decode_getip : decode 0b0000000000000000_0011_00_00_00010100#32 = .instr (.getip 3) := by decide
theorem test_decode_getdio : decode 0b0000000000000000_1011_00_00_00010101#32 = .instr (.getdio 11) := by decide
theorem test_decode_bswap16 : decode 0b0000000000000000_0000_00_00_00100000#32 = .instr .bswap16 := by decide
theorem test_decode_bswap32 : decode 0b0000000000000000_0000_00_00_00100001#32 = .instr .bswap32 := by decide
theorem test_decode_hswap : decode 0b0000000000000000_0000_00_00_00100010#32 = .instr .hswap := by decide
theorem test_decode_pswap : decode 0b0000000000000000_0000_00_00_00100011#32 = .instr .pswap := by decide
theorem test_decode_sext16 : decode 0b0000000000000000_0000_00_00_00100100#32 = .instr .sext16 := by decide
theorem test_decode_m4sync : decode 0b0000000000000000_0000_00_00_00110000#32 = .instr .m4sync := by decide
theorem test_decode_m4crc : decode 0b0000000000000000_0000_00_00_00110001#32 = .instr .m4crc := by decide

/-- V2: unassigned `OPC`, the all-zero word among them. -/
theorem test_illegal_unassigned : decode 0x00000000#32 = .illegal .unassignedOpc ∧
    decode 0x00000006#32 = .illegal .unassignedOpc ∧ decode 0x00000016#32 = .illegal .unassignedOpc ∧
    decode 0x00000025#32 = .illegal .unassignedOpc ∧ decode 0x00000032#32 = .illegal .unassignedOpc ∧
    decode 0x000000FF#32 = .illegal .unassignedOpc := by decide
/-- V2: modifiers a format does not take. -/
theorem test_illegal_modifier : decode 0x00000311#32 = .illegal .badFormatO ∧
    decode 0x00001011#32 = .illegal .badFormatO ∧ decode 0x00000110#32 = .illegal .modifierOnFormatN ∧
    decode 0x00001010#32 = .illegal .modifierOnFormatN ∧ decode 0x00000101#32 = .illegal .modifierOnFormatN ∧
    decode 0x00000114#32 = .illegal .orderOnFormatS ∧ decode 0x00000215#32 = .illegal .orderOnFormatS := by decide
/-- V2: reserved bits. -/
theorem test_illegal_reserved : decode 0x00000410#32 = .illegal .reservedLow ∧
    decode 0x00000810#32 = .illegal .reservedLow ∧ decode 0x00010010#32 = .illegal .reservedHigh ∧
    decode 0x80000001#32 = .illegal .reservedHigh := by decide
/-- V2: after reset an illegal word gives `STATUS = 0x44`. -/
theorem test_illegal_status : statusOf (State.reset.command 0x80000001#32) = some 0x00000044 := by decide
theorem test_decodeTableWord : decodeTableWord 32 0x5014 = some (.getip 5) ∧ decodeTableWord 32 0 = none := by decide

/-! ## The CRC family -/

/-- V26: `TINIT` after reset; and from `STATUS = 0x44` it keeps `ES`. -/
theorem test_tinit : statusOf (execTinit State.reset) = some 0x00000001 ∧
    statusOf (execTinit { State.reset with es := true, rc := .illegalCmd }) = some 0x00000005 := by decide
/-- V13, V14: entries of the tables of both profiles. -/
theorem test_table_entries : [tblent 0xA001 1, tblent 0xA001 2, tblent 0xA001 127, tblent 0xA001 0xCE,
      tblent 0x8408 1, tblent 0x8408 127, tblent 0x8408 255]
    = [0xC0C1, 0xC181, 0xE041, 0x9481, 0x1189, 0x8B70, 0x0F78] := by decide
/-- V21, profile A: a span not at offset 0, with the lazy build. -/
theorem test_crc16_profileA : crcValStatus (crc16With profileA { ready 0 [0x78, 0x78, 0x31, 0x32, 0x33, 0x34, 0x35,
    0x36, 0x37, 0x38, 0x39, 0x79, 0x79] 13 2 with len := 9 }) = (some 0x4B37, some 0, some 0x00000001) := by
  decide +kernel
/-- V19, profile B; V10: the empty span; V23: one byte too many, straight after reset. -/
theorem test_crc16_profileB : crcOf (crc16With profileB { ready 0 [0x50, 0x61, 0x6C, 0x65, 0x72, 0x74] 6 0 with
      len := 6 }) = some 0x2E61 ∧ crcOf (crc16With profileA State.reset) = some 0xFFFF ∧
    statusOf (crc16With profileB { State.reset with len := 1 }) = some 0x00000024 := by
  decide +kernel
/-- V24: equal low halves, the upper half ignored. -/
theorem test_crccmp_equal :
    statusOf (execCrccmp { withVal 0xFFFF4B37 with crc := 0x4B37 }) = some 0x00000002 := by decide
/-- V24, V102: a difference is `CORRUPT` and leaves `ES`. -/
theorem test_crccmp_different : statusOf (execCrccmp { withVal 0x00004B36 with crc := 0x4B37, matched := true })
    = some 0x00000010 := by decide
/-- V25: entries 1 and 255 with `PLEN = 0`, lazy build. -/
theorem test_tblrd : valStatus (tblrdWith profileA { State.reset with off := 1 }) = (some 0x0000C0C1, some 1) ∧
    valOf (tblrdWith profileB { State.reset with off := 255 }) = some 0x00000F78 := by decide +kernel
/-- V25: index 256 straight after reset. -/
theorem test_tblrd_256 : valStatus (tblrdWith profileA { withVal 7 with off := 256 }) = (some 7, some 0x24) := by
  decide

/-! ## The system family -/

/-- V100: from `0x27` to `0x03`. -/
theorem test_clrerr : statusOf (execClrerr { State.reset with
    tv := true, matched := true, es := true, rc := .invalidInput }) = some 0x00000003 := by decide
/-- V100: with `ES = 0` only `RC` changes, from `0x11` to `0x01`. -/
theorem test_clrerr_no_error : statusOf (execClrerr { State.reset with tv := true, rc := .corrupt })
    = some 0x00000001 := by decide

/-! ## The extract family (V50 to V66) -/

theorem test_getb : valStatus (execGetb (ready 7 [0xA5] 8 7)) = (some 0x000000A5, some 0) ∧
    valOf (execGetb (ready 65535 [0x5A] 65536 65535)) = some 0x0000005A := by decide
theorem test_getb_bounds : valStatus (execGetb { ready 7 [0xA5] 7 7 with val := 9 }) = (some 9, some 0x24) ∧
    statusOf (execGetb (ready 0 [] 65537 0)) = some 0x24 := by decide
theorem test_gethT : valOf (execGethT { ready 0 [0x34, 0x12] 2 0 with tbo := false }) = some 0x00001234 ∧
    valOf (execGethT { ready 0 [0x34, 0x12] 2 0 with tbo := true }) = some 0x00001234 := by decide
theorem test_gethLE : valOf (execGethLE (ready 3 [0xCD, 0xAB] 5 3)) = some 0x0000ABCD := by decide
theorem test_gethBE : valOf (execGethBE (ready 0 [0xFF, 0x00] 2 0)) = some 0x0000FF00 := by decide
/-- V53: the second byte would be at 65536; no wrap. -/
theorem test_geth_no_wrap : statusOf (execGethLE (ready 65535 [1] 65536 65535)) = some 0x24 := by decide
theorem test_getwT : valOf (execGetwT (ready 0 [0x78, 0x56, 0x34, 0x12] 4 0)) = some 0x12345678 := by decide
theorem test_getwLE : valOf (execGetwLE (ready 0 [0x01, 0, 0, 0] 4 0)) = some 0x00000001 := by decide
theorem test_getwBE : valOf (execGetwBE (ready 0 [0x78, 0x56, 0x34, 0x12] 4 0)) = some 0x78563412 := by decide
/-- V55: `PLEN = 32`, `OFF = 29`. -/
theorem test_getw_bounds : valStatus (execGetwT { ready 28 [1, 2, 3, 4] 32 29 with val := 9 })
    = (some 9, some 0x24) := by decide
theorem test_getshT : valOf (execGetshT (ready 0 [0xFE, 0xFF] 2 0)) = some 0xFFFFFFFE := by decide
theorem test_getshLE : valOf (execGetshLE (ready 0 [0xFF, 0x7F] 2 0)) = some 0x00007FFF ∧
    valOf (execGetshLE (ready 0 [0x00, 0x80] 2 0)) = some 0xFFFF8000 := by decide
theorem test_getshBE : valOf (execGetshBE (ready 0 [0x80, 0x00] 2 0)) = some 0xFFFF8000 ∧
    valOf (execGetshBE (ready 0 [0x00, 0x80] 2 0)) = some 0x00000080 := by decide
/-- V64. -/
theorem test_getip : ([0, 1, 2, 3].map fun k => valOf (execGetip k (ready 0 [0xC0, 0xA8, 0x01, 0x0A] 4 0)))
    = [some 0xC0A8010A, some 0xC0A8010A, some 0xA8C00A01, some 0xA8C00A01] := by decide
/-- V65: the selector is checked before the bounds. -/
theorem test_getip_failures : statusOf (execGetip 4 State.reset) = some 0x34 ∧
    statusOf (execGetip 3 State.reset) = some 0x24 := by decide
/-- V66. -/
theorem test_getdio : ((List.range 16).map fun n =>
      valOf (execGetdio (BitVec.ofNat 4 n) (ready 0 [0xA5, 0x3C] 2 0)))
    = [1, 0, 1, 0, 0, 1, 0, 1, 0, 0, 1, 1, 1, 1, 0, 0].map some := by decide
/-- V66: `OFF = PLEN - 1` fails though only the first byte would be used. -/
theorem test_getdio_bounds : statusOf (execGetdio 3 (ready 0 [0xFF] 1 0)) = some 0x24 := by decide

/-! ## The datapath family (V80 to V84) -/

theorem test_bswap16 : valOf (execBswap16 (withVal 0xABCD1234)) = some 0xABCD3412 := by decide
theorem test_bswap32 : valOf (execBswap32 (withVal 0x12345678)) = some 0x78563412 := by decide
theorem test_hswap : valOf (execHswap (withVal 0x12345678)) = some 0x56781234 := by decide
theorem test_pswap : valOf (execPswap (withVal 0x12345678)) = some 0x34127856 := by decide
theorem test_sext16 : valOf (execSext16 (withVal 0x1234FFFE)) = some 0xFFFFFFFE ∧
    valOf (execSext16 (withVal 0xFFFF7FFF)) = some 0x00007FFF := by decide

/-! ## The binary32 reading (V56) -/

theorem test_f32 : f32OfBits 0x3F800000 = .finite false 8388608 (-23) ∧ f32OfBits 0x7FC00001 = .nan 0x7FC00001 ∧
    f32OfBits 0x80000000 = .finite true 0 (-149) ∧ f32OfBits 0x00000001 = .finite false 1 (-149) ∧
    f32OfBits 0x7F800000 = .infinity false ∧ f32OfBits 0xC0000000 = .finite true 8388608 (-22) := by decide

/-! ## The validator family (V41 to V46) -/

/-- The header `H` of V41 with one byte of the prefix, one of the field and one sync byte to choose. -/
def headerA (p3 f0 s0 : Byte) : Memory :=
  packetAt 0 ([0x04, 0x00, 0x40, p3, 0x2A, 0x01, 0x39, 0x30, f0, 0xA4] ++ List.replicate 50 0
    ++ [s0, 0x55, 0x0F, 0xF0])

/-- V41, V42: the sync check and its sensitivity. -/
theorem test_m4sync : statusOf (m4syncWith profileA { State.reset with pkt := headerA 0 4 0xAA, plen := 64 })
      = some 0x00000002 ∧
    statusOf (m4syncWith profileA { State.reset with pkt := headerA 0 4 0xAB, plen := 64 }) = some 0x00000010 := by
  decide
/-- V44: `PLEN = 63`, and `OFF = 1` with `PLEN = 64`. -/
theorem test_m4sync_bounds : statusOf (m4syncWith profileA { State.reset with plen := 63 }) = some 0x24 ∧
    statusOf (m4syncWith profileA { State.reset with plen := 64, off := 1 }) = some 0x24 := by decide
/-- V41, V43, profile A: accepted; rejected by the field; rejected by the prefix. -/
theorem test_m4crc_profileA :
    crcValStatus (m4crcWith profileA { State.reset with pkt := headerA 0 4 0xAA, plen := 64 })
      = (some 0xA404, some 0x0000A404, some 0x00000003) ∧
    crcValStatus (m4crcWith profileA { State.reset with pkt := headerA 0 5 0xAA, plen := 64 })
      = (some 0xA404, some 0x0000A405, some 0x00000011) ∧
    crcOf (m4crcWith profileA { State.reset with pkt := headerA 1 4 0xAA, plen := 64 }) = some 0x6439 := by
  decide +kernel
/-- V46, profile B: the field inside the span; V44: the bounds failure leaves `TV = 0`. -/
theorem test_m4crc_profileB :
    crcValStatus (m4crcWith profileB { State.reset with
        pkt := packetAt 0 ([0x04, 0x00, 0x3F, 0x42, 0x2A, 0x01, 0x39, 0x01] ++ List.replicate 56 0), plen := 64 })
      = (some 0x423F, some 0x0000423F, some 0x00000003) ∧
    statusOf (m4crcWith profileB { State.reset with plen := 63 }) = some 0x24 := by
  decide +kernel

/-! ## Transactions, steps and scripts -/

theorem test_reg_write_masks : (State.reset.setOff 0xFFFF1234).off = 0x1234 ∧
    (State.reset.setLen 0xFFFFFFFF).len = 0x1FFFF ∧ (State.reset.setPlen 0x00020001).plen = 1 := by decide
theorem test_memory_write : Memory.set [(1, 5), (3, 7)] 2 6 = [(1, 5), (2, 6), (3, 7)] ∧
    Memory.set [(1, 5), (3, 7)] 3 9 = [(1, 5), (3, 9)] := by decide
theorem test_step_runs_command : statusOf (step (State.reset.withFetchWord 32 0x00007014)) = some 0x34 := by decide
theorem test_bus_register : valOf (step (pending (.bus (.write 0x10018#17 .word 0xCAFE)))) = some 0xCAFE := by decide
theorem test_bus_reserved : statusOf (step (pending (.bus (.write 0x10020#17 .word 1)))) = some 0 := by decide
theorem test_bus_refused : statusOf (step (pending (.bus (.read 0x00000#17 .half)))) = none := by decide
theorem test_script_m4check : expandScript [.reset, .m4check 16] =
    [.reset, .regWrite .off 16, .regWrite .cmd 0x30, .regWrite .cmd 0x31] := by decide

/-! ## Witnesses: concrete states and operands that meet the hypotheses of the statements, clause by clause, at
the boundary values of their ranges -/

/-- A state with the table built, the packet from `ready`, and transactions pending. -/
def built (port : List Transaction) (pkt : Memory) (plen : Count) (off : Half) : State :=
  { State.reset with
    tbl := crcTable Config.crc16Poly, tv := true, pkt := pkt, plen := plen, off := off, port := port }

theorem test_built_inv (port : List Transaction) (pkt : Memory) (plen : Count) (off : Half) (h : Memory.wf pkt) :
    (built port pkt plen off).Inv := ⟨h, fun _ => rfl, rfl, fun h => by simp [built, State.reset, ResultCode.isError] at h⟩

/-! ### Encoding -/

theorem test_witness_DecodeInvertsEncode : (Instr.getip 15).wf = true ∧ Instr.gethBE.wf = true := by decide
theorem test_witness_LegalWordsReencode : decode 0x0000F015#32 = .instr (.getdio 15) := by decide
theorem test_witness_OpcodeRowsDecide : decode 0x0000F014#32 = .instr (.getip 15) ∧
    0x0000F014#32 &&& (opRow (.getip 2)).mask = (opRow (.getip 2)).bits := by decide
theorem test_witness_IllegalWordsOnlyReport :
    (pending (.regWrite .cmd 0x00000311#32)).port = [.regWrite .cmd 0x00000311#32] ∧
    decode 0x00000311#32 = .illegal .badFormatO := by decide

/-! ### Steps and transactions -/

theorem test_witness_StepRunsDecodedCommand :
    (pending (.regWrite .cmd 0x00003014#32)).port = [.regWrite .cmd 0x00003014#32] ∧
    decode 0x00003014#32 = .instr (.getip 3) ∧ (Instr.getip 3).wf = true ∧
    decodeTableWord 32 0x00003014 = some (.getip 3) := by decide
theorem test_witness_NothingHappensWithoutTransaction : (built [] [] 0 0).port = [] := rfl
theorem test_witness_PacketTransactions : (pending (.pktWrite 0xFFFF#16 7)).port = [.pktWrite 0xFFFF#16 7] ∧
    (pending (.pktRead 0xFFFF#16)).port = [.pktRead 0xFFFF#16] := by decide
theorem test_witness_RegisterTransactions_writes :
    (∀ r : Reg, (pending (.regWrite r 0xFFFFFFFF#32)).port = [.regWrite r 0xFFFFFFFF#32]) ∧
    decode 0x00000010#32 = .instr .getb ∧ decode 0xFFFFFFFF#32 = .illegal .reservedHigh := ⟨fun _ => rfl, by decide⟩
theorem test_witness_RegisterTransactions_reads :
    ∀ r : Reg, (pending (.regRead r)).port = [.regRead r] := fun _ => rfl
theorem test_witness_FlatBusCarriesTransactions_ranges :
    (0x00000#17).toNat < 0x10000 ∧ (0x0FFFF#17).toNat < 0x10000 ∧
    (0x10000#17).toNat = 0x10000 + 4 * Reg.cmd.number.toNat ∧
    (0x1001C#17).toNat = 0x10000 + 4 * Reg.crc.number.toNat ∧
    0x10020 ≤ (0x10020#17).toNat ∧ 0x10020 ≤ (0x1FFFF#17).toNat := by decide
/-- A wide packet access, and a misaligned and a narrow register access, are among the refused. -/
theorem test_witness_FlatBusCarriesTransactions_refused :
    ((0x0FFFF#17).toNat < 0x10020 ∧ BusWidth.half ≠ .byte) ∧
    ((0x1001F#17).toNat < 0x10020 ∧ 0x10000 ≤ (0x1001F#17).toNat ∧ (0x1001F#17).toNat % 4 ≠ 0) ∧
    ((0x10000#17).toNat < 0x10020 ∧ (0x10000#17).toNat % 4 = 0 ∧ BusWidth.byte ≠ .word) := by decide
theorem test_witness_HResetRestoresState : (pending .reset).port = [.reset] ∧
    ∃ t, exec .getb State.reset = .next t := ⟨rfl, _, rfl⟩
theorem test_witness_TableIsNeverUnbuilt : (built [.regWrite .val 1] [(0, 1)] 1 0).Inv ∧
    (built [.regWrite .val 1] [(0, 1)] 1 0).tv = true ∧
    (∀ rest, (built [.regWrite .val 1] [(0, 1)] 1 0).port ≠ .reset :: rest) ∧
    ∃ t, step (built [.regWrite .val 1] [(0, 1)] 1 0) = .next t :=
  ⟨test_built_inv _ _ _ _ (by decide), rfl, fun _ h => by simp [built] at h, _, rfl⟩
theorem test_witness_StepKeepsInv : (built [.pktWrite 0xFFFF#16 2] [(0, 1)] 1 0).Inv ∧
    ∃ t, step (built [.pktWrite 0xFFFF#16 2] [(0, 1)] 1 0) = .next t :=
  ⟨test_built_inv _ _ _ _ (by decide), _, rfl⟩
theorem test_witness_StepNeverFaults :
    step (pending (.bus (.read 0x10001#17 .word))) = .refused .unsupportedBusAccess := rfl

/-! ### Rules about all commands -/

theorem test_witness_CommandsKeepOperandsAndPacket : ∃ t, exec .getwBE (ready 0 [1, 2, 3, 4] 4 0) = .next t :=
  ⟨_, rfl⟩
theorem test_witness_CommandWriteSets : (∃ t, exec .crccmp (withVal 3) = .next t) ∧
    writesVal .crccmp = false ∧ writesCrc .crccmp = false ∧ writesTable .crccmp = false ∧
    compares .getb = false ∧ Instr.crccmp ≠ .clrerr := ⟨⟨_, rfl⟩, by decide⟩
theorem test_witness_FailureChangesOnlyRcAndEs : (∃ t, exec (.getip 4) State.reset = .next t ∧ t.rc.isError = true) ∧
    decode 0x00000000#32 = .illegal .unassignedOpc := ⟨⟨_, rfl, rfl⟩, by decide⟩
/-- Illegal word; unknown selector (also out of bounds); bounds; table index; mismatch; none. -/
theorem test_witness_CauseOrder : decode 0x00000000#32 = .illegal .unassignedOpc ∧
    (selectorUnknown (.getip 4) = true ∧ ∃ t, exec (.getip 4) State.reset = .next t) ∧
    (selectorUnknown (.getip 3) = false ∧ spanRefused (.getip 3) State.reset ∧
      ∃ t, exec (.getip 3) State.reset = .next t) ∧
    (spanRefused .tblrd { State.reset with off := 256 } ∧
      ∃ t, exec .tblrd { State.reset with off := 256 } = .next t) ∧
    (¬ spanRefused .crccmp State.reset ∧ compares .crccmp = true ∧ ∃ t, exec .crccmp State.reset = .next t) ∧
    (¬ spanRefused .getb (ready 0 [1] 1 0) ∧ compares .getb = false ∧
      ∃ t, exec .getb (ready 0 [1] 1 0) = .next t) :=
  ⟨by decide, ⟨by decide, _, rfl⟩, ⟨by decide, by simp [spanRefused, spanLength, State.reset], _, rfl⟩,
    ⟨by simp [spanRefused, spanLength], _, rfl⟩,
    ⟨by simp [spanRefused, spanLength], rfl, _, rfl⟩,
    ⟨by simp [spanRefused, spanLength, ready, State.reset], rfl, _, rfl⟩⟩
theorem test_witness_ErrorSticksUntilCleared : ∀ tr ∈ [Transaction.reset, .regWrite .cmd 0x00000005#32,
    .bus (.write 0x10000#17 .word 0x00000005#32)],
    ({ pending tr with es := true } : State).es = true ∧
      ∃ t, step { pending tr with es := true } = .next t ∧ t.es = false := by
  intro tr h
  simp only [List.mem_cons, List.not_mem_nil, or_false] at h
  rcases h with rfl | rfl | rfl <;> exact ⟨rfl, _, rfl, rfl⟩
theorem test_witness_CorruptIsNotAnError : ∃ t, exec .crccmp (withVal 1) = .next t ∧ t.rc = .corrupt :=
  ⟨_, rfl, by decide⟩
/-- A comparing command that completes, one that fails, one that does not compare. -/
theorem test_witness_MatchFlagRule :
    (∃ t, exec .crccmp (withVal 1) = .next t ∧ compares .crccmp = true ∧ t.rc.isError = false) ∧
    (∃ t, exec .m4crc (ready 0 [] 63 0) = .next t ∧ t.rc.isError = true) ∧
    (∃ t, exec .getb State.reset = .next t ∧ compares .getb = false) :=
  ⟨⟨_, rfl, by decide, by decide⟩, ⟨_, rfl, by decide⟩, _, rfl, by decide⟩
/-- The validators do not fail with the whole header in bounds. -/
theorem test_witness_MatchFlagRule_validators :
    (∃ t, exec .m4sync (ready 0 [] 64 0) = .next t ∧ t.rc.isError = false) ∧
    (∃ t, exec .m4crc (ready 0 [] 64 0) = .next t ∧ t.rc.isError = false) := by
  have verdictOk : ∀ (s : State) (e : Bool), (s.verdict e).rc.isError = false := fun s e => by cases e <;> rfl
  exact ⟨⟨_, show m4syncWith Config.params (ready 0 [] 64 0) = _ from m4syncWith_of_inb _ _ (by decide), verdictOk _ _⟩,
    ⟨_, show m4crcWith Config.params (ready 0 [] 64 0) = _ from m4crcWith_of_inb _ _ (by decide), verdictOk _ _⟩⟩
/-- `PLEN = 1`: the packets agree at offset 0 and differ at offset 1. -/
theorem test_witness_BytesAbovePlenAreNeverRead : ∀ a : Nat, a < (ready 0 [5] 1 0).plen.toNat →
    ({ ready 0 [5] 1 0 with pkt := [(0, 5), (1, 9)] } : State).pktByte a = (ready 0 [5] 1 0).pktByte a := by
  intro a h
  have : a = 0 := by have : a < 1 := h; omega
  subst this; rfl
theorem test_witness_UnwrittenByteIsFree : (∀ v, ((ready 0 [5] 2 1).off.toNat, v) ∉ (ready 0 [5] 2 1).pkt) ∧
    (ready 0 [5] 2 1).off.toNat < (ready 0 [5] 2 1).plen.toNat ∧ (ready 0 [5] 2 1).plen.toNat ≤ 65536 ∧
    (pending .reset).port = [.reset] := ⟨fun v => by simp [ready, packetAt], by decide, by decide, rfl⟩

/-! ### The CRC family -/

theorem test_witness_TinitBuildsTable : (built [] [] 0 0).Inv ∧ (built [] [] 0 0).tv = true ∧
    ∃ t, exec .tinit State.reset = .next t := ⟨test_built_inv _ _ _ _ (by decide), rfl, _, rfl⟩
/-- A state with `PLEN`, `OFF` and `LEN`. -/
def spanState (plen : Count) (off : Half) (len : Count) : State :=
  { State.reset with plen := plen, off := off, len := len }

/-- `OFF + LEN = PLEN + 1`; `OFF + LEN = PLEN = 65536`; `PLEN` above the capacity; `LEN = 0`. -/
theorem test_witness_Crc16FoldsSpan :
    (0 < (spanState 9 1 9).len.toNat ∧ (spanState 9 1 9).plen.toNat
      < (spanState 9 1 9).off.toNat + (spanState 9 1 9).len.toNat) ∧
    (0 < (spanState 65536 0 65536).len.toNat ∧ (spanState 65536 0 65536).off.toNat
      + (spanState 65536 0 65536).len.toNat ≤ (spanState 65536 0 65536).plen.toNat ∧
      (spanState 65536 0 65536).plen.toNat ≤ 65536) ∧
    (0 < (spanState 131071 0 1).len.toNat ∧ 65536 < (spanState 131071 0 1).plen.toNat) ∧
    (spanState 0 9 0).len.toNat = 0 := by decide
theorem test_witness_CrccmpCompares : ({ withVal 0xFFFF4B37 with crc := 0x4B37 } : State).crc.toNat
      = ({ withVal 0xFFFF4B37 with crc := 0x4B37 } : State).val.toNat % 65536 ∧
    (withVal 1).crc.toNat ≠ (withVal 1).val.toNat % 65536 := by decide
/-- The last index and the first refused one; a state with the invariant and index 128. -/
theorem test_witness_TblrdReadsEntry : (ready 0 [] 0 255).off.toNat ≤ 255 ∧ 255 < (ready 0 [] 0 256).off.toNat ∧
    (built [] [] 0 128).Inv ∧ (built [] [] 0 128).off.toNat = 128 :=
  ⟨by decide, by decide, test_built_inv _ _ _ _ (by decide), by decide⟩
theorem test_witness_TableAndSpanLaws : 255 < 256 ∧ 0 < 256 := by decide
theorem test_witness_LazyAndEagerBuildAgree : (built [] [] 0 1).Inv ∧
    (∃ u, exec .tinit (built [] [] 0 1) = .next u) ∧ ∃ t, exec .tblrd (built [] [] 0 1) = .next t :=
  ⟨test_built_inv _ _ _ _ (by decide), ⟨_, rfl⟩, _, rfl⟩

/-! ### The system, extract and datapath families -/

theorem test_witness_ClrerrClearsSticky_others : Instr.tinit ≠ .clrerr ∧
    ∃ t, exec .tinit { State.reset with es := true } = .next t := ⟨by decide, _, rfl⟩
theorem test_witness_ClrerrClearsSticky : State.reset.es = false ∧ (∃ t, exec .clrerr State.reset = .next t) ∧
    decode 0x00000000#32 = .illegal .unassignedOpc ∧
    ∃ t u, exec (.getip 9) State.reset = .next t ∧ exec .clrerr t = .next u :=
  ⟨rfl, ⟨_, rfl⟩, by decide, _, _, rfl, rfl⟩
/-- In bounds to the last byte, one byte short, and `PLEN` above the capacity: `GETB`, and the 2- and 4-byte
accessors (`GETH`, `GETSH`, `GETDIO`; `GETW`, `GETIP`). -/
theorem test_witness_extract_bounds : ∀ n ∈ [1, 2, 4],
    (∀ s ∈ [ready 0 [] 65536 (BitVec.ofNat 16 (65536 - n)), ready 0 [] (BitVec.ofNat 17 (8 + n)) 8],
      s.off.toNat + n ≤ s.plen.toNat ∧ s.plen.toNat ≤ 65536) ∧
    (ready 0 [] (BitVec.ofNat 17 (7 + n)) 8).plen.toNat < (ready 0 [] (BitVec.ofNat 17 (7 + n)) 8).off.toNat + n ∧
    65536 < (ready 0 [] 65537 0).plen.toNat := by
  simp [ready, State.reset]
theorem test_witness_GetipOrdersOctets : 4 ≤ (4#4).toNat ∧ (3#4).toNat < 4 ∧ 2 ≤ (3#4).toNat ∧ 2 ≤ (2#4).toNat ∧
    (1#4).toNat < 2 ∧ (0#4).toNat < 2 := by decide
theorem test_witness_DatapathIdentities : (¬ (Instr.hswap = .bswap16 ∧ (Instr.pswap = .hswap ∨ Instr.pswap = .bswap32)) ∧
      ¬ (Instr.pswap = .bswap16 ∧ (Instr.hswap = .hswap ∨ Instr.hswap = .bswap32))) ∧
    (ready 0 [1, 2] 2 0).off.toNat + 2 ≤ (ready 0 [1, 2] 2 0).plen.toNat ∧
    (ready 0 [1, 2, 3, 4] 4 0).off.toNat + 4 ≤ (ready 0 [1, 2, 3, 4] 4 0).plen.toNat ∧
    (ready 0 [1, 2, 3, 4] 4 0).plen.toNat ≤ 65536 := by decide
/-- A NaN, an infinity, a subnormal, a zero, the smallest and the largest normal exponent. -/
theorem test_witness_Binary32Reading :
    (0x7F800001 / 8388608 % 256 = 255 ∧ 0x7F800001 % 8388608 ≠ 0) ∧
    (0xFF800000 / 8388608 % 256 = 255 ∧ 0xFF800000 % 8388608 = 0) ∧
    (0x007FFFFF / 8388608 % 256 = 0 ∧ 0x80000000 / 8388608 % 256 = 0 ∧ 0x80000000 % 8388608 = 0) ∧
    (0x00800000 / 8388608 % 256 = 1 ∧ 0x7F7FFFFF / 8388608 % 256 = 254) := by decide
theorem test_witness_Binary32ReadingLosesNothing : f32OfBits 0x7FC00001 = f32OfBits (0x7FC00000#32 + 1) ∧
    ∃ t, exec .getwT (ready 0 [1, 0, 0xC0, 0x7F] 4 0) = .next t ∧ t.rc = .ok := ⟨by decide, _, rfl, rfl⟩

/-! ### The validator family -/

/-- A state whose header carries the block's own sync word, its first sync byte replaced by `v`. -/
def syncState (v : Byte) : State :=
  { State.reset with
    pkt := [(60, v), (61, Config.m4Sync.b1), (62, Config.m4Sync.b2), (63, Config.m4Sync.b3)], plen := 64 }

theorem test_witness_M4syncComparesSyncWord_equal : (syncState Config.m4Sync.b0).off.toNat + 64
      ≤ (syncState Config.m4Sync.b0).plen.toNat ∧ (syncState Config.m4Sync.b0).plen.toNat ≤ 65536 ∧
    (syncState Config.m4Sync.b0).pktByte 60 = Config.m4Sync.b0 ∧
    (syncState Config.m4Sync.b0).pktByte 61 = Config.m4Sync.b1 ∧
    (syncState Config.m4Sync.b0).pktByte 62 = Config.m4Sync.b2 ∧
    (syncState Config.m4Sync.b0).pktByte 63 = Config.m4Sync.b3 :=
  ⟨by decide, by decide, rfl, rfl, rfl, rfl⟩
theorem test_witness_M4syncComparesSyncWord_different :
    (syncState (Config.m4Sync.b0 + 1)).pktByte 60 ≠ Config.m4Sync.b0 := by
  show Config.m4Sync.b0 + 1 ≠ Config.m4Sync.b0
  generalize Config.m4Sync.b0 = x
  revert x
  decide
/-- `PLEN = OFF + 64` passes; `PLEN = OFF + 63` and `PLEN = 65537` do not (`M4SYNC` and `M4CRC`). -/
theorem test_witness_M4_bounds : (ready 0 [] 80 16).off.toNat + 64 ≤ (ready 0 [] 80 16).plen.toNat ∧
    (ready 0 [] 80 16).plen.toNat ≤ 65536 ∧ (ready 0 [] 80 17).plen.toNat < (ready 0 [] 80 17).off.toNat + 64 ∧
    65536 < (ready 0 [] 65537 0).plen.toNat := by decide
theorem test_witness_M4crcEqualsSequence : (ready 0 [] 65536 65472).off.toNat + 64
      ≤ (ready 0 [] 65536 65472).plen.toNat ∧ (ready 0 [] 65536 65472).plen.toNat ≤ 65536 ∧
    ∃ t, exec .m4crc (ready 0 [] 65536 65472) = .next t :=
  ⟨by decide, by decide, _,
    show m4crcWith Config.params (ready 0 [] 65536 65472) = _ from m4crcWith_of_inb _ _ (by decide)⟩
/-- Packets that differ just outside the bytes that count: before the sync word, after the header. -/
theorem test_witness_VerdictsDependOnTheirBytesOnly :
    (∀ j : Nat, j < 4 → ({ ready 0 [] 64 0 with pkt := [(59, 9)] } : State).pktByte (0 + 60 + j)
      = (ready 0 [] 64 0).pktByte (0 + 60 + j)) ∧
    (∀ j : Nat, j < 8 ∨ j = Config.m4CrcOff.val ∨ j = Config.m4CrcOff.val + 1 →
      ({ ready 0 [] 64 0 with pkt := [(64, 9)] } : State).pktByte (0 + j) = (ready 0 [] 64 0).pktByte (0 + j)) := by
  refine ⟨fun j _ => ?_, fun j h => ?_⟩
  · have : 0 + 60 + j ≠ 59 := by omega
    simp only [State.pktByte, Memory.get?, this, if_false]; rfl
  · have : 0 + j ≠ 64 := by have := Config.m4CrcOff.isLt; omega
    simp only [State.pktByte, Memory.get?, this, if_false]; rfl

/-! ### Scripts -/

theorem test_witness_ScriptPktStoresBytes : (ScriptLine.pkt 65534 [1, 2]).wf = true ∧
    ({ State.reset with port := [.pktWrite 0xFFFE#16 1, .pktWrite 0xFFFF#16 2, .reset] } : State).port
      = (ScriptLine.pkt 65534 [1, 2]).expand ++ [.reset] := by decide

end Sys2Proof.Tests
end

