-- ==== Sys2Proof/Proofs/Scope.lean ====
section
/-! Proofs of the statements of 00_scope.md. -/

namespace Sys2Proof.Proofs

open Sys2Proof.Machine

/-- One step with no transaction pending: the other branch of the host's script beside `step_cons`. -/
theorem step_nil (s : State) (h : s.port = []) : step s = .next s := by
  simp only [step, State.serveNext, h]

/-- Settles O7: an empty port is the idle branch of the step. -/
theorem nothingHappensWithoutTransaction : Obligations.NothingHappensWithoutTransaction :=
  step_nil

end Sys2Proof.Proofs
end

section
/-! Proofs of the statements of 10_state.md. -/

namespace Sys2Proof.Proofs

open Sys2Proof.Machine

/-! ### What a command reads

Two states that agree on these parts run every command to the same effect. `TBO`, `MATCH`, `ES`, `RC`, the packet
bytes at and above `PLEN` and the entries of a table not built yet are not among them. -/

/-- Agreement on everything a command's effect can depend on. -/
structure SameInputs (s s' : State) : Prop where
  plen : s'.plen = s.plen
  off : s'.off = s.off
  len : s'.len = s.len
  val : s'.val = s.val
  crc : s'.crc = s.crc
  bytes : ∀ a < s.plen.toNat, s'.pktByte a = s.pktByte a
  table : (s'.ensureTable Config.params).tbl = (s.ensureTable Config.params).tbl

theorem SameInputs.refl (s : State) : SameInputs s s := ⟨rfl, rfl, rfl, rfl, rfl, fun _ _ => rfl, rfl⟩

theorem SameInputs.inb {s s' : State} (h : SameInputs s s') (o n : Nat) : s'.inb o n = s.inb o n := by
  simp only [State.inb, h.plen]

/-- A span inside `PLEN` is read as the same bytes. -/
theorem SameInputs.pktBytes {s s' : State} (h : SameInputs s s') {o n : Nat} (hn : n = 0 ∨ s.inb o n = true) :
    s'.pktBytes o n = s.pktBytes o n := by
  refine List.map_congr_left fun j hj => h.bytes _ ?_
  have hj : j < n := List.mem_range.mp hj
  rcases hn with hn | hn
  · omega
  · have := (s.inb_iff o n).mp hn
    omega

/-- 41_extract.md R122: the two paths of the target order build the same value. -/
theorem asm16Target_eq (tbo : Bool) (b : List Byte) : asm16Target tbo b = asm16 .le b := by
  cases tbo with
  | false => rfl
  | true =>
    refine BitVec.add_eq_or_of_and_eq_zero _ _ (BitVec.eq_of_getLsbD_eq fun k hk => ?_)
    by_cases h8 : k < 8
    · simp [h8]
    · simp [BitVec.getLsbD_of_ge _ k (Nat.le_of_not_lt h8)]

/-! ### What a command does -/

/-- The ways a command can end, each with the values it computed. -/
inductive Effect where
  /-- `fail(code)`. -/
  | fails (code : ResultCode)
  /-- The result goes to `VAL`. -/
  | delivers (v : Word)
  /-- The table is built, whether or not it was. -/
  | builds
  /-- The table is built where needed and the result goes to `CRC`. -/
  | folds (c : Half)
  /-- The table is built where needed and the result goes to `VAL`. -/
  | looksUp (v : Word)
  /-- `ES` is cleared. -/
  | clears
  /-- A verdict and nothing else. -/
  | judges (equal : Bool)
  /-- The table is built where needed; the computed and the embedded value go to `CRC` and `VAL` and are compared. -/
  | checks (computed embedded : Half)

/-- The state an effect leaves. -/
def Effect.apply (s : State) : Effect → State
  | .fails code => s.fail code
  | .delivers v => (s.setVal v).done
  | .builds => (s.build Config.params).done
  | .folds c => ((s.ensureTable Config.params).setCrc c).done
  | .looksUp v => ((s.ensureTable Config.params).setVal v).done
  | .clears => s.clearSticky.done
  | .judges equal => s.verdict equal
  | .checks c f => (((s.ensureTable Config.params).setCrc c).setVal (zext32Half f)).verdict (c == f)

/-- Which effects a command can have. -/
def Effect.Of (i : Instr) : Effect → Prop
  | .fails code => code.isError = true
  | .delivers _ => writesVal i = true ∧ compares i = false
  | .builds => i = .tinit
  | .folds _ => i = .crc16
  | .looksUp _ => i = .tblrd
  | .clears => i = .clrerr
  | .judges _ => i = .crccmp ∨ i = .m4sync
  | .checks _ _ => i = .m4crc

/-- `e` is what `i` does at `s` and at every state with the same inputs. -/
structure HasEffect (i : Instr) (s : State) (e : Effect) : Prop where
  allowed : e.Of i
  runs : ∀ s', SameInputs s s' → exec i s' = .next (e.apply s')

/-- The extract commands: `fails` out of bounds, otherwise `delivers`. -/
theorem extract_hasEffect {i : Instr} {n : Nat} {f : List Byte → Word} (s : State)
    (hexec : ∀ s', exec i s' = extract n f s') (hval : writesVal i = true) (hcmp : compares i = false) :
    ∃ e, HasEffect i s e := by
  cases hb : s.inb s.off.toNat n with
  | false =>
    refine ⟨.fails .invalidInput, rfl, fun s' h => ?_⟩
    rw [hexec, extract_of_not_inb n f s' (by rw [h.inb, h.off, hb])]
    rfl
  | true =>
    refine ⟨.delivers (f (s.pktBytes s.off.toNat n)), ⟨hval, hcmp⟩, fun s' h => ?_⟩
    rw [hexec, extract_of_inb n f s' (by rw [h.inb, h.off, hb]), h.off, h.pktBytes (.inr hb)]
    rfl

/-- `GETIP` checks its selector before the bounds. -/
theorem getip_hasEffect (k : BitVec 4) (s : State) : ∃ e, HasEffect (.getip k) s e := by
  by_cases hk : nIpKind ≤ k.toNat
  · exact ⟨.fails .unknownSelector, rfl, fun s' _ => if_pos hk⟩
  · exact extract_hasEffect s (fun s' => if_neg hk) rfl rfl

/-- The datapath commands depend on `VAL` alone. -/
theorem onVal_hasEffect {i : Instr} {f : Word → Word} (s : State)
    (hexec : ∀ s', exec i s' = onVal f s') (hval : writesVal i = true) (hcmp : compares i = false) :
    ∃ e, HasEffect i s e := by
  refine ⟨.delivers (f s.val), ⟨hval, hcmp⟩, fun s' h => ?_⟩
  rw [hexec, onVal, h.val]
  rfl

theorem crc16_hasEffect (s : State) : ∃ e, HasEffect .crc16 s e := by
  by_cases hs : s.len.toNat = 0 ∨ s.inb s.off.toNat s.len.toNat = true
  · refine ⟨.folds (crcSpan (s.ensureTable Config.params).tbl Config.params.crc16Init
      (s.pktBytes s.off.toNat s.len.toNat)), rfl, fun s' h => ?_⟩
    show crc16With Config.params s' = _
    have hbytes := h.pktBytes hs
    rcases hs with hz | hb
    · rw [crc16With_of_empty _ s' (by rw [h.len, hz]), hz]
      rfl
    · rw [crc16With_of_inb _ s' (by rw [h.inb, h.off, h.len, hb]), h.table, h.off, h.len, hbytes]
      rfl
  · obtain ⟨hl, hb⟩ := not_or.mp hs
    refine ⟨.fails .invalidInput, rfl, fun s' h => ?_⟩
    exact crc16With_of_not_inb _ s' (by rw [h.len]; omega)
      (by rw [h.inb, h.off, h.len]; exact Bool.eq_false_of_not_eq_true hb)

theorem tblrd_hasEffect (s : State) : ∃ e, HasEffect .tblrd s e := by
  by_cases hoff : 255 < s.off.toNat
  · exact ⟨.fails .invalidInput, rfl, fun s' h => if_pos (by rw [h.off]; exact hoff)⟩
  · refine ⟨.looksUp (zext32Half (tblAt (s.ensureTable Config.params).tbl (s.off.setWidth 8))), rfl,
      fun s' h => ?_⟩
    refine (if_neg (by rw [h.off]; exact hoff)).trans ?_
    simp only [State.ensureTable_off, h.off, h.table]
    rfl

theorem m4sync_hasEffect (s : State) : ∃ e, HasEffect .m4sync s e := by
  cases hb : s.inb s.off.toNat 64 with
  | false =>
    exact ⟨.fails .invalidInput, rfl, fun s' h => m4syncWith_of_not_inb _ s' (by rw [h.inb, h.off, hb])⟩
  | true =>
    refine ⟨.judges (syncMatches Config.params.m4Sync (s.pktBytes (s.off.toNat + 60) 4)), .inr rfl,
      fun s' h => ?_⟩
    refine (m4syncWith_of_inb _ s' (by rw [h.inb, h.off, hb])).trans ?_
    rw [h.off, h.pktBytes (.inr (s.inb_mono hb (by omega)))]
    rfl

theorem m4crc_hasEffect (s : State) : ∃ e, HasEffect .m4crc s e := by
  cases hb : s.inb s.off.toNat 64 with
  | false =>
    exact ⟨.fails .invalidInput, rfl, fun s' h => m4crcWith_of_not_inb _ s' (by rw [h.inb, h.off, hb])⟩
  | true =>
    refine ⟨.checks (crcSpan (s.ensureTable Config.params).tbl Config.params.crc16Init (s.pktBytes s.off.toNat 8))
      (asm16 .le (s.pktBytes (s.off.toNat + Config.params.m4CrcOff.val) 2)), rfl, fun s' h => ?_⟩
    refine (m4crcWith_of_inb _ s' (by rw [h.inb, h.off, hb])).trans ?_
    rw [h.table, h.off, h.pktBytes (.inr (s.inb_mono hb (by omega))),
      h.pktBytes (.inr (s.inb_mono hb (by omega)))]
    rfl

/-- Every command has an effect, fixed by its inputs. -/
theorem exec_hasEffect (i : Instr) (s : State) : ∃ e, HasEffect i s e := by
  cases i with
  | tinit => exact ⟨.builds, rfl, fun _ _ => rfl⟩
  | crc16 => exact crc16_hasEffect s
  | crccmp =>
    refine ⟨.judges (s.crc == lowHalf s.val), .inl rfl, fun s' h => ?_⟩
    rw [← h.crc, ← h.val]
    rfl
  | tblrd => exact tblrd_hasEffect s
  | clrerr => exact ⟨.clears, rfl, fun _ _ => rfl⟩
  | getb | gethLE | gethBE | getwT | getwLE | getwBE | getshT | getshLE | getshBE | getdio =>
    exact extract_hasEffect s (fun _ => rfl) rfl rfl
  | gethT =>
    refine extract_hasEffect (n := 2) (f := fun b => zext32Half (asm16 .le b)) s (fun s' => ?_) rfl rfl
    simp only [exec, execGethT, asm16Target_eq]
  | getip k => exact getip_hasEffect k s
  | bswap16 | bswap32 | hswap | pswap | sext16 => exact onVal_hasEffect s (fun _ => rfl) rfl rfl
  | m4sync => exact m4sync_hasEffect s
  | m4crc => exact m4crc_hasEffect s

/-- Everything a command can do. -/
theorem exec_next {i : Instr} {s t : State} (h : exec i s = .next t) :
    ∃ e, HasEffect i s e ∧ t = e.apply s := by
  obtain ⟨e, he⟩ := exec_hasEffect i s
  have hs := he.runs s (.refl s)
  rw [h] at hs
  cases hs
  exact ⟨e, he, rfl⟩

/-! ### Rules about all commands -/

/-- 10_state.md R32: under the invariant a command that needs the table finds or builds the one table. -/
theorem inv_ensureTable_tbl {s : State} (h : s.Inv) :
    (s.ensureTable Config.params).tbl = crcTable Config.crc16Poly := by
  rw [State.ensureTable_tbl]
  split
  · exact h.tableBuilt ‹_›
  · rfl

/-- A verdict is never a failure (60_exceptions.md R208). -/
@[simp] theorem ofVerdict_isError (e : Bool) : (ResultCode.ofVerdict e).isError = false := by cases e <;> rfl

theorem ofVerdict_eq_ok (e : Bool) : ResultCode.ofVerdict e = .ok ↔ e = true := by cases e <;> decide

theorem ofVerdict_eq_corrupt (e : Bool) : ResultCode.ofVerdict e = .corrupt ↔ e = false := by cases e <;> decide

/-- `VAL`, `CRC`, `MATCH`, `RC` and `ES` after an effect are fixed by the effect and by their own old values: the
table shows in none of them. -/
theorem Effect.apply_results_eq (e : Effect) {s u : State} (hval : u.val = s.val) (hcrc : u.crc = s.crc)
    (hmatched : u.matched = s.matched) (hes : u.es = s.es) :
    (e.apply u).val = (e.apply s).val ∧ (e.apply u).crc = (e.apply s).crc ∧
      (e.apply u).matched = (e.apply s).matched ∧ (e.apply u).rc = (e.apply s).rc ∧
      (e.apply u).es = (e.apply s).es := by
  cases e <;> simp [Effect.apply, hval, hcrc, hmatched, hes]

/-- Only `fail` leaves a failure code. -/
theorem Effect.eq_fails_of_isError {e : Effect} {s : State} (h : (e.apply s).rc.isError = true) :
    ∃ code, e = .fails code := by
  cases e with
  | fails code => exact ⟨code, rfl⟩
  | delivers v | builds | folds c | looksUp v | clears => cases h
  | judges equal | checks c f => exact absurd h (by simp [Effect.apply])

/-- The write sets and the sticky error, effect by effect. -/
theorem Effect.Of.writeSets {i : Instr} {e : Effect} (h : e.Of i) (s : State) :
    (writesVal i = false → (e.apply s).val = s.val) ∧ (writesCrc i = false → (e.apply s).crc = s.crc) ∧
    (writesTable i = false → (e.apply s).tbl = s.tbl ∧ (e.apply s).tv = s.tv) ∧
    (compares i = false → (e.apply s).matched = s.matched) ∧
    (i ≠ .clrerr → (e.apply s).es = (s.es || (e.apply s).rc.isError)) := by
  cases e with
  | fails code => simp [Effect.apply]
  | delivers v =>
    obtain ⟨hval, hcmp⟩ := h
    simp [Effect.apply, hval, ResultCode.isError]
  | builds | folds c | looksUp v | clears =>
    cases h
    simp [Effect.apply, writesVal, writesCrc, writesTable, compares, ResultCode.isError]
  | checks c f =>
    cases h
    simp [Effect.apply, writesVal, writesCrc, writesTable, compares]
  | judges equal => rcases h with rfl | rfl <;> simp [Effect.apply, compares]

/-- Settles O20, effect by effect. -/
theorem commandWriteSets : Obligations.CommandWriteSets := by
  intro i s t h
  obtain ⟨e, ⟨hof, -⟩, rfl⟩ := exec_next h
  exact hof.writeSets s

/-- Settles O37: under the invariant `TINIT` leaves every input of a command as it was, so that the command has the
same effect after it. -/
theorem lazyAndEagerBuildAgree : Obligations.LazyAndEagerBuildAgree := by
  intro i s u t hinv hu ht
  cases hu
  obtain ⟨e, ⟨-, hsame⟩, rfl⟩ := exec_next ht
  refine ⟨_, hsame _ ⟨rfl, rfl, rfl, rfl, rfl, fun _ _ => rfl, (inv_ensureTable_tbl hinv).symm⟩, ?_⟩
  exact e.apply_results_eq rfl rfl rfl rfl

/-! ### `MATCH` -/

/-- A comparing command that did not fail leaves the same verdict in `MATCH` and in `RC`. -/
theorem Effect.Of.matched_iff_rc {i : Instr} {e : Effect} (h : e.Of i) (s : State)
    (hcmp : compares i = true) (herr : (e.apply s).rc.isError = false) :
    ((e.apply s).matched = true ↔ (e.apply s).rc = .ok) ∧
      ((e.apply s).matched = false ↔ (e.apply s).rc = .corrupt) := by
  cases e with
  | fails code => exact absurd (h : code.isError = true) (ne_true_of_eq_false herr)
  | delivers v =>
    obtain ⟨-, hno⟩ := h
    exact absurd hcmp (ne_true_of_eq_false hno)
  | builds | folds c | looksUp v | clears => cases h; cases hcmp
  | judges equal | checks c f => exact ⟨(ofVerdict_eq_ok _).symm, (ofVerdict_eq_corrupt _).symm⟩

/-- An effect at a state with another `MATCH` differs in `MATCH` alone, and not even there after a verdict. -/
theorem Effect.Of.apply_with_matched {i : Instr} {e : Effect} (h : e.Of i) (s : State) (b : Bool) :
    e.apply { s with matched := b } = { e.apply s with
      matched := if compares i && !(e.apply s).rc.isError then (e.apply s).matched else b } := by
  cases e with
  | fails code =>
    have herr : code.isError = true := h
    simp [Effect.apply, State.fail, herr]
  | delivers v =>
    obtain ⟨-, hcmp⟩ := h
    simp [Effect.apply, State.setVal_done, hcmp]
  | builds | folds c | looksUp v | clears =>
    cases h
    simp [Effect.apply, compares, State.build_done, State.ensureTable_setCrc_done, State.ensureTable_setVal_done,
      State.clearSticky_done]
  | judges equal => rcases h with rfl | rfl <;> simp [Effect.apply, compares, State.verdict_eq]
  | checks c f =>
    cases h
    simp [Effect.apply, compares, State.ensureTable_setCrc_setVal_verdict]

theorem SameInputs.withMatched (s : State) (b : Bool) : SameInputs s { s with matched := b } := by
  refine ⟨rfl, rfl, rfl, rfl, rfl, fun _ _ => rfl, ?_⟩
  simp only [State.ensureTable_tbl]

/-- `CRCCMP` compares `CRC` with the low half of `VAL` as numbers. -/
theorem crccmp_matched {s t : State} (h : exec .crccmp s = .next t) :
    t.matched = true ↔ s.crc.toNat = s.val.toNat % 65536 := by
  cases h
  simp [← BitVec.toNat_inj, lowHalf]

theorem syncMatches_iff (sync : SyncWord) (b : List Byte) : syncMatches sync b = true ↔
    byteAt b 0 = sync.b0 ∧ byteAt b 1 = sync.b1 ∧ byteAt b 2 = sync.b2 ∧ byteAt b 3 = sync.b3 := by
  simp [syncMatches, and_assoc]

/-- `M4SYNC` that does not fail compares the last four bytes of the header. -/
theorem m4sync_matched {s t : State} (h : exec .m4sync s = .next t) (herr : t.rc.isError = false) :
    t.matched = true ↔
      s.pktByte (s.off.toNat + 60) = Config.m4Sync.b0 ∧ s.pktByte (s.off.toNat + 61) = Config.m4Sync.b1 ∧
      s.pktByte (s.off.toNat + 62) = Config.m4Sync.b2 ∧ s.pktByte (s.off.toNat + 63) = Config.m4Sync.b3 := by
  change m4syncWith Config.params s = .next t at h
  cases hb : s.inb s.off.toNat 64 with
  | false =>
    rw [m4syncWith_of_not_inb _ s hb] at h
    cases h
    cases herr
  | true =>
    rw [m4syncWith_of_inb _ s hb] at h
    cases h
    simp [syncMatches_iff, State.byteAt_pktBytes, Config.params, Nat.add_assoc]

/-- `M4CRC` that does not fail leaves in `CRC` and `VAL` the two values it compared. -/
theorem m4crc_matched {s t : State} (h : exec .m4crc s = .next t) (herr : t.rc.isError = false) :
    t.matched = true ↔ t.crc.toNat = t.val.toNat := by
  obtain ⟨e, ⟨hof, -⟩, rfl⟩ := exec_next h
  cases e with
  | fails code => exact absurd (hof : code.isError = true) (ne_true_of_eq_false herr)
  | delivers v => exact absurd hof.2 (by decide)
  | builds | folds c | looksUp v | clears => cases hof
  | judges equal => simp [Effect.Of] at hof
  | checks c f =>
    have hlt : f.toNat < 4294967296 := by omega
    simp [Effect.apply, zext32Half, ← BitVec.toNat_inj, Nat.mod_eq_of_lt hlt]

/-- Settles O25: the rule of each comparing command, and `MATCH` is no input of any command. -/
theorem matchFlagRule : Obligations.MatchFlagRule := by
  refine ⟨fun i s t h => ?_, fun s t => crccmp_matched, fun s t => m4sync_matched, fun s t => m4crc_matched,
    fun i s t b h => ?_⟩
  · obtain ⟨e, ⟨hof, -⟩, rfl⟩ := exec_next h
    refine ⟨fun hor => ?_, hof.matched_iff_rc s⟩
    obtain ⟨-, -, -, hkeep, -⟩ := hof.writeSets s
    rcases hor with hcmp | herr
    · exact hkeep hcmp
    · obtain ⟨code, rfl⟩ := Effect.eq_fails_of_isError herr
      rfl
  · obtain ⟨e, ⟨hof, hsame⟩, rfl⟩ := exec_next h
    rw [hsame _ (.withMatched s b), hof.apply_with_matched]

/-! ### The invariant -/

/-- Settles O15: no byte is written, no table is built and `RC` is `OK`. -/
theorem invAtReset : Obligations.InvAtReset where
  pktCanonical := reset_pkt_wf
  tableBuilt := nofun
  strapped := rfl
  errorSticks := nofun

theorem fail_keeps_inv {s : State} (code : ResultCode) (hs : s.Inv) : (s.fail code).Inv := by
  obtain ⟨hpkt, htable, hstrap, -⟩ := hs
  refine ⟨hpkt, htable, hstrap, fun herr => ?_⟩
  rw [State.fail_es, ← State.fail_rc s code, herr, Bool.or_true]

theorem Effect.keeps_inv (e : Effect) {s : State} (hs : s.Inv) : (e.apply s).Inv := by
  have htbl := inv_ensureTable_tbl hs
  obtain ⟨hpkt, htable, hstrap, hsticky⟩ := hs
  cases e with
  | fails code => exact fail_keeps_inv code ⟨hpkt, htable, hstrap, hsticky⟩
  | delivers v => exact ⟨hpkt, htable, hstrap, nofun⟩
  | builds => exact ⟨hpkt, fun _ => rfl, hstrap, nofun⟩
  | folds c | looksUp v =>
    exact ⟨by simpa [Effect.apply] using hpkt, fun _ => htbl, by simpa [Effect.apply] using hstrap, nofun⟩
  | clears => exact ⟨hpkt, htable, hstrap, nofun⟩
  | judges equal => exact ⟨hpkt, htable, hstrap, by simp [Effect.apply]⟩
  | checks c f =>
    exact ⟨by simpa [Effect.apply] using hpkt, fun _ => htbl, by simpa [Effect.apply] using hstrap,
      by simp [Effect.apply]⟩

theorem exec_keeps_inv {i : Instr} {s t : State} (h : exec i s = .next t) (hs : s.Inv) : t.Inv := by
  obtain ⟨e, -, rfl⟩ := exec_next h
  exact e.keeps_inv hs

/-- Everything a write of `CMD` can do. -/
theorem command_next {s t : State} {w : Word} (h : s.command w = .next t) :
    (∃ i, decode w = .instr i ∧ exec i s = .next t) ∨
      (∃ y, decode w = .illegal y ∧ t = s.fail .illegalCmd) := by
  cases hd : decode w with
  | instr i => rw [s.command_of_instr hd] at h; exact .inl ⟨i, rfl, h⟩
  | illegal y => rw [s.command_of_illegal hd] at h; cases h; exact .inr ⟨y, rfl, rfl⟩

theorem command_keeps_inv {s t : State} {w : Word} (h : s.command w = .next t) (hs : s.Inv) : t.Inv := by
  rcases command_next h with ⟨i, -, hexec⟩ | ⟨y, -, rfl⟩
  · exact exec_keeps_inv hexec hs
  · exact fail_keeps_inv _ hs

theorem writeReg_keeps_inv {s t : State} {r : Reg} {w : Word} (h : s.writeReg r w = .next t) (hs : s.Inv) :
    t.Inv := by
  cases r with
  | cmd => exact command_keeps_inv h hs
  | status | cfg | crc => cases h; exact hs
  | off | len | plen | val => cases h; exact ⟨hs.pktCanonical, hs.tableBuilt, hs.strapped, hs.errorSticks⟩

/-- Everything a flat bus access can do: what another transaction does, or the plain answers of the reserved
addresses (20_memory.md R59). -/
theorem busAccess_next {s t : State} {acc : BusAccess} (h : s.busAccess acc = .next t) :
    (∃ r, t = s.respond r) ∨ (∃ a v, t = s.memWrite a v) ∨ (∃ r w, s.writeReg r w = .next t) ∨ t = s := by
  cases acc with
  | read addr width =>
    simp only [State.busAccess] at h
    split at h
    · cases h; exact .inl ⟨_, rfl⟩
    · cases h; exact .inl ⟨_, rfl⟩
    · cases h; exact .inl ⟨_, rfl⟩
    · cases h
  | write addr width data =>
    simp only [State.busAccess] at h
    split at h
    · cases h; exact .inr (.inl ⟨_, _, rfl⟩)
    · exact .inr (.inr (.inl ⟨_, _, h⟩))
    · cases h; exact .inr (.inr (.inr rfl))
    · cases h

theorem respond_keeps_inv {s : State} (r : Response) (hs : s.Inv) : (s.respond r).Inv :=
  ⟨hs.pktCanonical, hs.tableBuilt, hs.strapped, hs.errorSticks⟩

theorem memWrite_keeps_inv {s : State} (a : Half) (v : Byte) (hs : s.Inv) : (s.memWrite a v).Inv :=
  ⟨s.memWrite_pkt_wf a v hs.pktCanonical, hs.tableBuilt, hs.strapped, hs.errorSticks⟩

theorem hReset_inv (s : State) : s.hReset.Inv := ⟨s.hReset_pkt_wf, nofun, rfl, nofun⟩

theorem busAccess_keeps_inv {s t : State} {acc : BusAccess} (h : s.busAccess acc = .next t) (hs : s.Inv) :
    t.Inv := by
  rcases busAccess_next h with ⟨r, rfl⟩ | ⟨a, v, rfl⟩ | ⟨r, w, hw⟩ | rfl
  · exact respond_keeps_inv r hs
  · exact memWrite_keeps_inv a v hs
  · exact writeReg_keeps_inv hw hs
  · exact hs

theorem serve_keeps_inv {s t : State} {tr : Transaction} (h : s.serve tr = .next t) (hs : s.Inv) : t.Inv := by
  cases tr with
  | reset => cases h; exact hReset_inv s
  | pktWrite a v => cases h; exact memWrite_keeps_inv a v hs
  | pktRead a | regRead r => cases h; exact respond_keeps_inv _ hs
  | regWrite r w => exact writeReg_keeps_inv h hs
  | bus acc => exact busAccess_keeps_inv h hs

/-- Settles O16: the invariant does not speak of the host's script, and every transaction keeps it. -/
theorem stepKeepsInv : Obligations.StepKeepsInv := by
  intro s t hs h
  cases hport : s.port with
  | nil => rw [step_nil s hport] at h; cases h; exact hs
  | cons tr rest =>
    rw [step_cons s hport] at h
    exact serve_keeps_inv h ⟨hs.pktCanonical, hs.tableBuilt, hs.strapped, hs.errorSticks⟩

/-! ### The step -/

/-- A pending write of a legal word to `CMD` runs its command (10_state.md R34). -/
theorem step_of_command {s : State} {rest : List Transaction} {w : Word} {i : Instr}
    (hport : s.port = .regWrite .cmd w :: rest) (hd : decode w = .instr i) :
    step s = exec i { s with port := rest } :=
  (step_cons s hport).trans (State.command_of_instr _ hd)

theorem decodeTableWord_eq_some {nbits w : Nat} {i : Instr} :
    decodeTableWord nbits w = some i ↔ decode (tableWord nbits w) = .instr i := by
  unfold decodeTableWord
  split <;> simp_all

/-- Settles O6: the word that `withFetchWord` places is the next one, and the script left behind is the old one. -/
theorem stepRunsDecodedCommand : Obligations.StepRunsDecodedCommand := by
  refine ⟨fun s rest w i hport hd _ => step_of_command hport hd, fun s nbits w i hd => ?_⟩
  exact step_of_command (s.submitCommand_port (tableWord nbits w)) (decodeTableWord_eq_some.mp hd)

/-! ### `STATUS`, `CFG` and the values after reset -/

theorem ResultCode.code_le_four (c : ResultCode) : c.code.toNat ≤ 4 := by cases c <;> decide

/-- Bit by bit, `STATUS` is the concatenation of R29's row. -/
theorem statusWord_getLsbD (s : State) (k : Nat) : s.statusWord.getLsbD k =
    if k = 0 then s.tv else if k = 1 then s.matched else if k = 2 then s.es
    else if 4 ≤ k ∧ k ≤ 6 then s.rc.code.getLsbD (k - 4) else false := by
  by_cases hk : k < 7
  · simp only [State.statusWord, BitVec.getLsbD_append]
    interval_cases k <;> simp
  · rw [State.statusWord, BitVec.getLsbD_append, if_neg hk, BitVec.getLsbD_zero, if_neg (by omega),
      if_neg (by omega), if_neg (by omega), if_neg (by omega)]

theorem cfgWord_getLsbD (s : State) (k : Nat) : s.cfgWord.getLsbD k = if k = 0 then s.tbo else false := by
  rw [State.cfgWord, BitVec.getLsbD_append]
  cases k with
  | zero => simp
  | succ k => simp

/-- Settles O10, from the two words bit by bit. -/
theorem statusAndCfgBits : Obligations.StatusAndCfgBits := fun s =>
  ⟨statusWord_getLsbD s, cfgWord_getLsbD s, ResultCode.code_le_four s.rc⟩

/-- Settles O13, by evaluation of the one state. -/
theorem resetStateValues : Obligations.ResetStateValues :=
  ⟨rfl, rfl, rfl, rfl, rfl, rfl, rfl, rfl, rfl, rfl, rfl⟩

/-! ### Unwritten bytes -/

/-- An offset that no entry lists has no written byte. -/
theorem get?_of_not_mem {m : Memory} {a : Nat} (h : ∀ v, (a, v) ∉ m) : m.get? a = none := by
  induction m with
  | nil => rfl
  | cons c rest ih =>
    obtain ⟨b, w⟩ := c
    have hne : a ≠ b := by rintro rfl; exact h w (.head _)
    rw [Memory.get?, if_neg hne]
    exact ih fun v hv => h v (.tail _ hv)

theorem pktByte_of_not_mem {s : State} {a : Nat} (h : ∀ v, (a, v) ∉ s.pkt) :
    s.pktByte a = Config.unwrittenByte s.resets a := by
  rw [State.pktByte, get?_of_not_mem h, Option.getD_none]

/-- Settles O28: the packet of `GETB` lists no byte there, and that of a reset block lists none at all. -/
theorem unwrittenByteIsFree : Obligations.UnwrittenByteIsFree := by
  refine ⟨fun s hfree hlt hcap => ?_, fun s rest hport => ?_⟩
  · have hinb : s.inb s.off.toNat 1 = true := (s.inb_iff _ _).mpr ⟨hlt, hcap⟩
    have hbyte : byteAt (s.pktBytes s.off.toNat 1) 0 = Config.unwrittenByte s.resets s.off.toNat :=
      (s.byteAt_pktBytes _ _ _ Nat.one_pos).trans (pktByte_of_not_mem hfree)
    refine (extract_of_inb 1 _ s hinb).trans ?_
    rw [State.setVal_done, hbyte, zext32Byte, BitVec.ofNat_toNat]
  · exact ⟨_, step_cons s hport, fun a => pktByte_of_not_mem fun v => List.not_mem_nil⟩

end Sys2Proof.Proofs
end

section
/-! Proofs of the statements of 20_memory.md. -/

namespace Sys2Proof.Proofs

open Sys2Proof.Machine

/-! ### What every effect leaves as it was -/

@[simp] theorem Effect.apply_pkt (e : Effect) (s : State) : (e.apply s).pkt = s.pkt := by
  cases e <;> simp [Effect.apply]

@[simp] theorem Effect.apply_plen (e : Effect) (s : State) : (e.apply s).plen = s.plen := by
  cases e <;> simp [Effect.apply]

@[simp] theorem Effect.apply_off (e : Effect) (s : State) : (e.apply s).off = s.off := by
  cases e <;> simp [Effect.apply]

@[simp] theorem Effect.apply_len (e : Effect) (s : State) : (e.apply s).len = s.len := by
  cases e <;> simp [Effect.apply]

@[simp] theorem Effect.apply_tbo (e : Effect) (s : State) : (e.apply s).tbo = s.tbo := by
  cases e <;> simp [Effect.apply]

@[simp] theorem Effect.apply_port (e : Effect) (s : State) : (e.apply s).port = s.port := by
  cases e <;> simp [Effect.apply]

@[simp] theorem Effect.apply_reads (e : Effect) (s : State) : (e.apply s).reads = s.reads := by
  cases e <;> simp [Effect.apply]

@[simp] theorem Effect.apply_resets (e : Effect) (s : State) : (e.apply s).resets = s.resets := by
  cases e <;> simp [Effect.apply]

/-- A byte of the packet depends on the written bytes and the number of resets alone. -/
@[simp] theorem Effect.apply_pktByte (e : Effect) (s : State) (a : Nat) :
    (e.apply s).pktByte a = s.pktByte a := by
  simp only [State.pktByte, Effect.apply_pkt, Effect.apply_resets]

/-- Settles O19: none of these fields is written by any effect. -/
theorem commandsKeepOperandsAndPacket : Obligations.CommandsKeepOperandsAndPacket := by
  intro i s t h
  obtain ⟨e, -, rfl⟩ := exec_next h
  exact ⟨e.apply_pkt s, e.apply_pktByte s, e.apply_plen s, e.apply_off s, e.apply_len s, e.apply_tbo s,
    e.apply_port s, e.apply_reads s, e.apply_resets s⟩

/-! ### `TBO` and the packet pass through every command -/

/-- Changing the packet and `TBO` before an effect is changing them after it. -/
theorem Effect.apply_with_pkt_tbo (e : Effect) (s : State) (m : Memory) (b : Bool) :
    e.apply { s with pkt := m, tbo := b } = { e.apply s with pkt := m, tbo := b } := by
  cases e with
  | fails code | delivers v | builds | clears | judges equal => rfl
  | folds c => simp only [Effect.apply, State.ensureTable_setCrc_done]
  | looksUp v => simp only [Effect.apply, State.ensureTable_setVal_done]
  | checks c f => simp only [Effect.apply, State.ensureTable_setCrc_setVal_verdict]

/-- `TBO` is no input of a command, and of the packet only the bytes below `PLEN` are. -/
theorem SameInputs.withPktTbo (s : State) (m : Memory) (b : Bool)
    (hbytes : ∀ a < s.plen.toNat, ({ s with pkt := m } : State).pktByte a = s.pktByte a) :
    SameInputs s { s with pkt := m, tbo := b } := by
  refine ⟨rfl, rfl, rfl, rfl, rfl, hbytes, ?_⟩
  simp only [State.ensureTable_tbl]

/-- 41_extract.md R122: the only command with two paths for `TBO` is `GETH.LE` on both. -/
theorem gethT_eq_gethLE (s : State) : exec .gethT s = exec .gethLE s := by
  simp only [exec, execGethT, execGethLE, asm16Target_eq]

theorem toNat_append_eq_add {m n : Nat} (x : BitVec m) (y : BitVec n) :
    (x ++ y).toNat = 2 ^ n * x.toNat + y.toNat := by
  rw [BitVec.toNat_append, Nat.shiftLeft_eq, Nat.mul_comm, Nat.two_pow_add_eq_or_of_lt y.isLt]

theorem cfgWord_toNat (s : State) : s.cfgWord.toNat = s.tbo.toNat := by
  simp only [State.cfgWord, toNat_append_eq_add, BitVec.toNat_ofBool, BitVec.toNat_ofNat]
  omega

/-- Settles O26: `TBO` is no input of any effect, and each target-order command assembles little-endian. -/
theorem targetByteOrderHasNoEffect : Obligations.TargetByteOrderHasNoEffect := by
  refine ⟨fun i s b => ?_, fun s => ⟨gethT_eq_gethLE s, rfl, rfl, cfgWord_toNat s⟩⟩
  obtain ⟨e, -, hruns⟩ := exec_hasEffect i s
  rw [hruns _ (.withPktTbo s s.pkt b fun _ _ => rfl), hruns s (.refl s), e.apply_with_pkt_tbo]
  simp [mapNext]

/-- Settles O27: bytes at or above `PLEN` are no input of any effect. -/
theorem bytesAbovePlenAreNeverRead : Obligations.BytesAbovePlenAreNeverRead := by
  intro i s m hbytes
  obtain ⟨e, -, hruns⟩ := exec_hasEffect i s
  rw [hruns _ (.withPktTbo s m s.tbo hbytes), hruns s (.refl s), e.apply_with_pkt_tbo]
  simp [mapNext]

/-! ### Packet and register transactions -/

/-- Settles O8, from what a read returns after a write. -/
theorem packetTransactions : Obligations.PacketTransactions := by
  refine ⟨fun s rest a v hport => ⟨_, step_cons s hport, rfl, fun b => ?_⟩, fun s rest a hport => step_cons s hport⟩
  exact State.memWrite_pktByte _ a v b

/-- `STATUS` as a number, field by field (10_state.md R29). -/
theorem statusWord_toNat (s : State) : s.statusWord.toNat =
    s.tv.toNat + 2 * s.matched.toNat + 4 * s.es.toNat + 16 * s.rc.code.toNat := by
  simp only [State.statusWord, toNat_append_eq_add, BitVec.toNat_ofBool, BitVec.toNat_ofNat]
  omega

/-- Keeping the low `n` bits of a word is taking its number modulo `2 ^ n`; the modulus is a variable, so that a
statement may write it as a numeral. -/
theorem ofNat_mod_eq_setWidth (w : Word) (n k : Nat) (hk : k = 2 ^ n) :
    BitVec.ofNat n (w.toNat % k) = w.setWidth n := by
  subst hk
  apply BitVec.eq_of_toNat_eq
  simp

/-- Settles O9: the writes register by register, and the number of each register read. -/
theorem registerTransactions : Obligations.RegisterTransactions := by
  refine ⟨fun s rest w => ⟨fun hport => ?off, fun hport => ?len, fun hport => ?plen, step_cons s,
    fun r hr hport => ?readOnly, fun hport => ⟨fun i => step_of_command hport, fun y hy => ?illegal⟩⟩,
    fun s rest r hport => ⟨s.readReg r, step_cons s hport, ?read⟩⟩
  case off => rw [step_cons s hport, ofNat_mod_eq_setWidth w 16 65536 rfl]; rfl
  case len => rw [step_cons s hport, ofNat_mod_eq_setWidth w 17 131072 rfl]; rfl
  case plen => rw [step_cons s hport, ofNat_mod_eq_setWidth w 17 131072 rfl]; rfl
  case readOnly => rcases hr with rfl | rfl | rfl <;> exact step_cons s hport
  case illegal =>
    refine (step_cons s hport).trans ((State.command_of_illegal _ hy).trans ?_)
    rw [State.fail_error _ rfl]
  case read =>
    cases r with
    | cmd | val => rfl
    | status => exact statusWord_toNat s
    | cfg => exact cfgWord_toNat s
    | off | len | plen | crc => exact BitVec.toNat_setWidth_of_le (by decide)

/-! ### Which transactions complete -/

theorem exec_completes (i : Instr) (s : State) : ∃ t, exec i s = .next t := by
  obtain ⟨e, -, hruns⟩ := exec_hasEffect i s
  exact ⟨_, hruns s (.refl s)⟩

theorem writeReg_completes (s : State) (r : Reg) (w : Word) : ∃ t, s.writeReg r w = .next t := by
  cases r with
  | cmd =>
    cases hd : decode w with
    | instr i =>
      obtain ⟨t, ht⟩ := exec_completes i s
      exact ⟨t, (s.command_of_instr hd).trans ht⟩
    | illegal y => exact ⟨_, s.command_of_illegal hd⟩
  | status | cfg | off | len | plen | val | crc => exact ⟨_, rfl⟩

/-- A flat bus access that 20_memory.md R59 supports completes. -/
theorem busAccess_of_wf (s : State) {acc : BusAccess} (h : acc.wf = true) : ∃ t, s.busAccess acc = .next t := by
  cases acc with
  | read addr width | write addr width data =>
    simp only [BusAccess.wf, busSupports] at h
    split at h <;> simp_all [State.busAccess, writeReg_completes]

/-- Every other flat bus access is refused. -/
theorem busAccess_of_not_wf (s : State) {acc : BusAccess} (h : acc.wf = false) :
    s.busAccess acc = .refused .unsupportedBusAccess := by
  cases acc with
  | read addr width | write addr width data =>
    simp only [BusAccess.wf, busSupports] at h
    split at h <;> simp_all [State.busAccess]

/-- A transaction completes, or it is an unsupported flat bus access and is refused. -/
theorem serve_completes_or_refused (s : State) (tr : Transaction) :
    (∃ t, s.serve tr = .next t) ∨
      s.serve tr = .refused .unsupportedBusAccess ∧ ∃ acc, tr = .bus acc ∧ acc.wf = false := by
  cases tr with
  | reset | pktWrite a v | pktRead a | regRead r => exact .inl ⟨_, rfl⟩
  | regWrite r w => exact .inl (writeReg_completes s r w)
  | bus acc =>
    cases hwf : acc.wf with
    | true => exact .inl (busAccess_of_wf s hwf)
    | false => exact .inr ⟨busAccess_of_not_wf s hwf, acc, rfl, hwf⟩

/-- Everything a step can do. -/
theorem step_completes_or_refused (s : State) :
    (∃ t, step s = .next t) ∨
      step s = .refused .unsupportedBusAccess ∧ ∃ acc rest, s.port = .bus acc :: rest ∧ acc.wf = false := by
  cases hport : s.port with
  | nil => exact .inl ⟨s, step_nil s hport⟩
  | cons tr rest =>
    rw [step_cons s hport]
    rcases serve_completes_or_refused { s with port := rest } tr with hnext | ⟨hrefused, acc, rfl, hwf⟩
    · exact .inl hnext
    · exact .inr ⟨hrefused, acc, rest, rfl, hwf⟩

/-- Settles O17: a step has only the two outcomes of `step_completes_or_refused`. -/
theorem stepNeverFaults : Obligations.StepNeverFaults := by
  refine ⟨fun s r h => ?_, fun s r h => ?_⟩
  · rcases step_completes_or_refused s with ⟨t, ht⟩ | ⟨ht, -⟩ <;> simp [h] at ht
  · rcases step_completes_or_refused s with ⟨t, ht⟩ | ⟨ht, hpending⟩
    · simp [h] at ht
    · exact ⟨by simpa [h] using ht, hpending⟩

/-! ### The flat bus binding -/

/-- The packet window (20_memory.md R59). -/
theorem busTarget_packet {addr : Count} (h : addr.toNat < 0x10000) :
    busTarget addr = .packet (BitVec.ofNat 16 addr.toNat) := by
  rw [busTarget, if_pos (show addr.toNat < busRegBase from h), BitVec.ofNat_toNat]

/-- The reserved addresses (20_memory.md R59). -/
theorem busTarget_reserved {addr : Count} (h : 0x10020 ≤ addr.toNat) : busTarget addr = .reserved := by
  rw [busTarget, if_neg (by unfold busRegBase; omega), if_neg (by unfold busReservedBase; omega)]

/-- The register window: the two low bits of the address say whether it is a register's own. -/
theorem busTarget_register {addr : Count} (hlo : 0x10000 ≤ addr.toNat) (hhi : addr.toNat < 0x10020) :
    busTarget addr = .register (Reg.ofNumber (addr.extractLsb' 2 3)) (addr.toNat % 4 == 0) := by
  have hlow : (addr.extractLsb' 0 2 == 0) = (addr.toNat % 4 == 0) := by
    rw [Bool.eq_iff_iff, beq_iff_eq, beq_iff_eq, ← BitVec.toNat_inj, BitVec.extractLsb'_toNat]
    rfl
  rw [busTarget, if_neg (by unfold busRegBase; omega), if_pos (show addr.toNat < busReservedBase from hhi), hlow]

@[simp] theorem Reg.ofNumber_number (r : Reg) : Reg.ofNumber r.number = r := by cases r <;> rfl

/-- Register `r` has the address `0x10000 + 4*r` (20_memory.md R59). -/
theorem busTarget_own {addr : Count} {r : Reg} (h : addr.toNat = 0x10000 + 4 * r.number.toNat) :
    busTarget addr = .register r true := by
  have hnumber : addr.extractLsb' 2 3 = r.number := by
    apply BitVec.eq_of_toNat_eq
    rw [BitVec.extractLsb'_toNat, Nat.shiftRight_eq_div_pow]
    omega
  have haligned : (addr.toNat % 4 == 0) = true := by rw [beq_iff_eq]; omega
  rw [busTarget_register (by omega) (by omega), hnumber, Reg.ofNumber_number, haligned]

/-- The accesses R59 does not name are unsupported: the wrong width in the packet window, and in the register
window the wrong width or an address that is no register's own (log entry 9). -/
theorem busSupports_eq_false {addr : Count} {width : BusWidth} (h : addr.toNat < 0x10020)
    (hpacket : addr.toNat < 0x10000 → width ≠ .byte)
    (hregister : 0x10000 ≤ addr.toNat → addr.toNat % 4 = 0 → width ≠ .word) : busSupports addr width = false := by
  unfold busSupports
  rcases Nat.lt_or_ge addr.toNat 0x10000 with hlo | hlo
  · have hwidth := hpacket hlo
    rw [busTarget_packet hlo]
    cases width <;> trivial
  · rw [busTarget_register hlo h]
    cases haligned : addr.toNat % 4 == 0 with
    | false => rfl
    | true =>
      have hwidth := hregister hlo (beq_iff_eq.mp haligned)
      cases width <;> trivial

/-- A step with the next transaction written out serves it. -/
theorem step_pending (s : State) (tr : Transaction) (rest : List Transaction) :
    step { s with port := tr :: rest } = ({ s with port := rest } : State).serve tr :=
  step_cons _ rfl

/-- Settles O11, window by window. -/
theorem flatBusCarriesTransactions : Obligations.FlatBusCarriesTransactions := by
  intro s rest addr width data
  simp only [step_pending, State.serve]
  refine ⟨fun hpacket => ?_, fun r hown => ?_, fun hreserved => ?_, fun hhi hpacket hregister => ?_⟩
  · simp only [State.busAccess, busTarget_packet hpacket, BitVec.ofNat_toNat, and_self]
  · simp only [State.busAccess, busTarget_own hown, and_self]
  · simp only [State.busAccess, busTarget_reserved hreserved, State.respond, and_self]
  · have hwf := busSupports_eq_false hhi hpacket hregister
    exact ⟨busAccess_of_not_wf _ hwf, busAccess_of_not_wf _ hwf⟩

end Sys2Proof.Proofs
end

section
/-! Proofs of the statements of 30_encoding.md. -/

namespace Sys2Proof.Proofs

open Sys2Proof.Machine

/-! ### A command word and its fields (30_encoding.md R70) -/

theorem opcField_toNat (w : Word) : (opcField w).toNat = w.toNat % 256 := by
  rw [opcField, BitVec.extractLsb'_toNat, Nat.shiftRight_zero]

theorem ordField_toNat (w : Word) : (ordField w).toNat = w.toNat / 256 % 4 := by
  rw [ordField, BitVec.extractLsb'_toNat, Nat.shiftRight_eq_div_pow]

theorem rsvdLoField_toNat (w : Word) : (rsvdLoField w).toNat = w.toNat / 1024 % 4 := by
  rw [rsvdLoField, BitVec.extractLsb'_toNat, Nat.shiftRight_eq_div_pow]

theorem selField_toNat (w : Word) : (selField w).toNat = w.toNat / 4096 % 16 := by
  rw [selField, BitVec.extractLsb'_toNat, Nat.shiftRight_eq_div_pow]

theorem rsvdHiField_toNat (w : Word) : (rsvdHiField w).toNat = w.toNat / 65536 := by
  rw [rsvdHiField, BitVec.extractLsb'_toNat, Nat.shiftRight_eq_div_pow]
  omega

theorem commandWord_toNat (opc : Byte) (ord : BitVec 2) (sel : BitVec 4) :
    (commandWord opc ord sel).toNat = 4096 * sel.toNat + 256 * ord.toNat + opc.toNat := by
  simp only [commandWord, toNat_append_eq_add, BitVec.toNat_ofNat]
  omega

@[simp] theorem opcField_commandWord (opc : Byte) (ord : BitVec 2) (sel : BitVec 4) :
    opcField (commandWord opc ord sel) = opc := by
  apply BitVec.eq_of_toNat_eq
  rw [opcField_toNat, commandWord_toNat]
  omega

@[simp] theorem ordField_commandWord (opc : Byte) (ord : BitVec 2) (sel : BitVec 4) :
    ordField (commandWord opc ord sel) = ord := by
  apply BitVec.eq_of_toNat_eq
  rw [ordField_toNat, commandWord_toNat]
  omega

@[simp] theorem selField_commandWord (opc : Byte) (ord : BitVec 2) (sel : BitVec 4) :
    selField (commandWord opc ord sel) = sel := by
  apply BitVec.eq_of_toNat_eq
  rw [selField_toNat, commandWord_toNat]
  omega

@[simp] theorem rsvdHiField_commandWord (opc : Byte) (ord : BitVec 2) (sel : BitVec 4) :
    rsvdHiField (commandWord opc ord sel) = 0 := (Laws.commandWord_reserved opc ord sel).1

@[simp] theorem rsvdLoField_commandWord (opc : Byte) (ord : BitVec 2) (sel : BitVec 4) :
    rsvdLoField (commandWord opc ord sel) = 0 := (Laws.commandWord_reserved opc ord sel).2

/-- A word with its reserved bits zero is rebuilt from its other fields. -/
theorem commandWord_fields {w : Word} (hhi : rsvdHiField w = 0) (hlo : rsvdLoField w = 0) :
    commandWord (opcField w) (ordField w) (selField w) = w := by
  have hhi : w.toNat / 65536 = 0 := by rw [← rsvdHiField_toNat, hhi]; rfl
  have hlo : w.toNat / 1024 % 4 = 0 := by rw [← rsvdLoField_toNat, hlo]; rfl
  apply BitVec.eq_of_toNat_eq
  rw [commandWord_toNat, opcField_toNat, ordField_toNat, selField_toNat]
  omega

/-! ### Decoding and encoding are inverse (30_encoding.md R82) -/

/-- The table of R76 gives these fields to the command, in one of its three formats (R71 to R73). -/
def Assigned (opc : Byte) (ord : BitVec 2) (sel : BitVec 4) (i : Instr) : Prop :=
  (decodeN opc = some i ∧ ord = 0 ∧ sel = 0) ∨ (decodeO opc ord = some i ∧ sel = 0) ∨
    (decodeS opc sel = some i ∧ ord = 0)

/-- The encoder is written from the tables the decoder reads. -/
theorem Assigned.encode_eq {opc : Byte} {ord : BitVec 2} {sel : BitVec 4} {i : Instr}
    (h : Assigned opc ord sel i) : encode i = commandWord opc ord sel := by
  rcases h with ⟨hN, rfl, rfl⟩ | ⟨hO, rfl⟩ | ⟨hS, rfl⟩
  · unfold decodeN at hN
    split at hN <;> cases hN <;> rfl
  · unfold decodeO at hO
    split at hO <;> cases hO <;> rfl
  · unfold decodeS at hS
    split at hS <;> cases hS <;> rfl

/-- Everything a legal word is. -/
theorem decode_eq_instr {w : Word} {i : Instr} (h : decode w = .instr i) :
    rsvdHiField w = 0 ∧ rsvdLoField w = 0 ∧ Assigned (opcField w) (ordField w) (selField w) i := by
  unfold decode at h
  split at h
  · cases h
  next hhi =>
  split at h
  · cases h
  next hlo =>
  refine ⟨not_not.mp hhi, not_not.mp hlo, ?_⟩
  split at h
  · next j hN =>
    split at h
    · next hzero => cases h; exact .inl ⟨hN, hzero⟩
    · cases h
  · split at h
    · split at h
      · next j hO =>
        split at h
        · next hsel => cases h; exact .inr (.inl ⟨hO, hsel⟩)
        · cases h
      · cases h
    · split at h
      · next j hS =>
        split at h
        · next hord => cases h; exact .inr (.inr ⟨hS, hord⟩)
        · cases h
      · cases h

theorem encode_of_decode {w : Word} {i : Instr} (h : decode w = .instr i) : encode i = w := by
  obtain ⟨hhi, hlo, hfields⟩ := decode_eq_instr h
  rw [hfields.encode_eq, commandWord_fields hhi hlo]

/-- The words with a selector need the field lemmas; every other word is one number. -/
theorem decode_encode (i : Instr) : decode (encode i) = .instr i := by
  cases i with
  | getip k | getdio n => simp [decode, encode, decodeN, isFormatO, decodeS]
  | _ => rfl

theorem decode_eq_instr_iff {w : Word} {i : Instr} : decode w = .instr i ↔ encode i = w :=
  ⟨encode_of_decode, by rintro rfl; exact decode_encode i⟩

/-- Settles O2: every command is well formed, and its word decodes to it. -/
theorem decodeInvertsEncode : Obligations.DecodeInvertsEncode :=
  fun i _ => decode_encode i

/-- Settles O3: the fields of a legal word are those the encoder writes. -/
theorem legalWordsReencode : Obligations.LegalWordsReencode :=
  fun _ _ => encode_of_decode

/-- Settles O1: the ten legal words are the encoder's; each illegal one meets its condition by evaluation. -/
theorem knownWordsDecode : Obligations.KnownWordsDecode :=
  ⟨decode_encode .tinit, decode_encode .clrerr, decode_encode .getb, decode_encode .gethBE, decode_encode .getwLE,
    decode_encode .getshT, decode_encode (.getip 3), decode_encode (.getdio 11), decode_encode .pswap,
    decode_encode .m4crc, rfl, rfl, rfl, rfl⟩

/-- Settles O55: the expansions as they stand, and the word of an accessor is the word of that accessor alone. -/
theorem pseudoCommandExpansions : Obligations.PseudoCommandExpansions :=
  ⟨rfl, rfl, rfl, fun _ _ => rfl, fun i _ => ⟨decode_encode i, rfl⟩, fun _ => rfl, fun _ _ _ => rfl⟩

/-! ### The rows of the opcode table (30_encoding.md R82, "Equivalently") -/

/-- The mask of a row with a selector leaves the word with selector 0. -/
theorem commandWord_and_selMask (opc : Byte) (ord : BitVec 2) (sel : BitVec 4) :
    commandWord opc ord sel &&& 0xFFFF0FFF#32 = commandWord opc ord 0 := by
  refine BitVec.eq_of_getLsbD_eq fun k hk => ?_
  simp only [commandWord, BitVec.getLsbD_and, BitVec.getLsbD_append]
  interval_cases k <;> simp

theorem encode_and_mask (i : Instr) : encode i &&& (opRow i).mask = (opRow i).bits := by
  cases i with
  | getip k | getdio n => exact commandWord_and_selMask _ _ _
  | _ => rfl

/-- A word that is a command word but for its selector is that command word with the word's own selector. -/
theorem eq_commandWord_of_and_selMask {w : Word} {opc : Byte} {ord : BitVec 2}
    (h : w &&& 0xFFFF0FFF#32 = commandWord opc ord 0) : commandWord opc ord (selField w) = w := by
  refine BitVec.eq_of_getLsbD_eq fun k hk => ?_
  have hbit := congrArg (·.getLsbD k) h
  simp only [commandWord, selField, BitVec.getLsbD_and, BitVec.getLsbD_append, BitVec.getLsbD_extractLsb'] at hbit ⊢
  interval_cases k <;> simp_all

/-- The words that match a row are the words of the row's commands. -/
theorem matches_row_iff {w : Word} {j : Instr} :
    w &&& (opRow j).mask = (opRow j).bits ↔ ∃ i, encode i = w ∧ opRow i = opRow j := by
  constructor
  · intro h
    cases j with
    | getip k => exact ⟨.getip (selField w), eq_commandWord_of_and_selMask h, rfl⟩
    | getdio n => exact ⟨.getdio (selField w), eq_commandWord_of_and_selMask h, rfl⟩
    | _ =>
      refine ⟨_, ?_, rfl⟩
      exact h.symm.trans BitVec.and_allOnes
  · rintro ⟨i, rfl, hrow⟩
    rw [← hrow, encode_and_mask]

/-- Settles O4: a word is the word of at most one command, hence of at most one row. -/
theorem opcodeRowsDecide : Obligations.OpcodeRowsDecide := by
  refine ⟨fun w i h => ?_, fun w j h => ?_, fun w i j hi hj => ?_⟩
  · exact matches_row_iff.mpr ⟨i, encode_of_decode h, rfl⟩
  · obtain ⟨i, hw, hrow⟩ := matches_row_iff.mp h
    exact ⟨i, decode_eq_instr_iff.mpr hw, hrow⟩
  · obtain ⟨i', hi', hrowi⟩ := matches_row_iff.mp hi
    obtain ⟨j', hj', hrowj⟩ := matches_row_iff.mp hj
    have hsame : Decoded.instr i' = .instr j' := by
      rw [← decode_eq_instr_iff.mpr hi', ← decode_eq_instr_iff.mpr hj']
    cases hsame
    rw [← hrowi, hrowj]

/-! ### Illegal words (30_encoding.md R77) -/

/-- The operation codes of format N (30_encoding.md R71). -/
abbrev formatNCodes : List Nat := [0x01, 0x02, 0x03, 0x04, 0x05, 0x10, 0x20, 0x21, 0x22, 0x23, 0x24, 0x30, 0x31]

/-- The operation codes of format O (30_encoding.md R72). -/
abbrev formatOCodes : List Nat := [0x11, 0x12, 0x13]

/-- The operation codes of format S (30_encoding.md R73). -/
abbrev formatSCodes : List Nat := [0x14, 0x15]

theorem decodeN_isSome_iff (opc : Byte) : (decodeN opc).isSome ↔ opc.toNat ∈ formatNCodes := by
  unfold decodeN
  split <;> simp_all [← BitVec.toNat_inj]

/-- `ORD = 3` has no row (30_encoding.md R74); with the other three orders every code of the format has one. -/
theorem decodeO_isSome_iff (opc : Byte) (ord : BitVec 2) :
    (decodeO opc ord).isSome ↔ opc.toNat ∈ formatOCodes ∧ ord.toNat ≠ 3 := by
  unfold decodeO
  split <;> simp_all [← BitVec.toNat_inj]
  omega

theorem decodeS_isSome_iff (opc : Byte) (sel : BitVec 4) :
    (decodeS opc sel).isSome ↔ opc.toNat ∈ formatSCodes := by
  unfold decodeS
  split <;> simp_all [← BitVec.toNat_inj]

/-- Which fields the table of R76 assigns. -/
theorem exists_assigned_iff (opc : Byte) (ord : BitVec 2) (sel : BitVec 4) :
    (∃ i, Assigned opc ord sel i) ↔
      (opc.toNat ∈ formatNCodes ∧ ord.toNat = 0 ∧ sel.toNat = 0) ∨
      ((opc.toNat ∈ formatOCodes ∧ ord.toNat ≠ 3) ∧ sel.toNat = 0) ∨ (opc.toNat ∈ formatSCodes ∧ ord.toNat = 0) := by
  rw [← decodeN_isSome_iff, ← decodeO_isSome_iff, ← decodeS_isSome_iff opc sel]
  simp only [Assigned, exists_or, exists_and_right, ← Option.isSome_iff_exists, ← BitVec.toNat_inj,
    BitVec.ofNat_eq_ofNat, BitVec.toNat_ofNat, Nat.zero_mod]

/-- A word is legal when its reserved bits are zero and the table assigns its other fields. -/
theorem exists_decode_eq_instr_iff (w : Word) : (∃ i, decode w = .instr i) ↔
    rsvdHiField w = 0 ∧ rsvdLoField w = 0 ∧ ∃ i, Assigned (opcField w) (ordField w) (selField w) i := by
  constructor
  · rintro ⟨i, h⟩
    obtain ⟨hhi, hlo, hfields⟩ := decode_eq_instr h
    exact ⟨hhi, hlo, i, hfields⟩
  · rintro ⟨hhi, hlo, i, hfields⟩
    exact ⟨i, decode_eq_instr_iff.mpr (hfields.encode_eq.trans (commandWord_fields hhi hlo))⟩

theorem exists_decode_eq_illegal_iff (w : Word) :
    (∃ y, decode w = .illegal y) ↔ ¬ ∃ i, decode w = .instr i := by
  cases decode w <;> simp

/-- No operation code has two formats. -/
theorem formatCodes_disjoint : (∀ n ∈ formatNCodes, n ∉ formatOCodes ∧ n ∉ formatSCodes) ∧
    ∀ n ∈ formatOCodes, n ∉ formatSCodes := by decide

/-- De Morgan over the six conditions of R77, for formats that exclude each other. -/
theorem not_legal_iff {N O S : Prop} (hN : N → ¬ O ∧ ¬ S) (hO : O → ¬ S) (hi lo ord sel : Nat) :
    ¬ (hi = 0 ∧ lo = 0 ∧ ((N ∧ ord = 0 ∧ sel = 0) ∨ ((O ∧ ord ≠ 3) ∧ sel = 0) ∨ (S ∧ ord = 0))) ↔
      hi ≠ 0 ∨ lo ≠ 0 ∨ ¬ (N ∨ O ∨ S) ∨ (N ∧ (ord ≠ 0 ∨ sel ≠ 0)) ∨ (O ∧ (sel ≠ 0 ∨ ord = 3)) ∨ (S ∧ ord ≠ 0) := by
  grind

/-- Settles O5: the six conditions are those under which a word is not legal. -/
theorem illegalWordsOnlyReport : Obligations.IllegalWordsOnlyReport := by
  refine ⟨fun w => ?conditions, fun s rest w y hport hd => ?report, .unassignedOpc, rfl⟩
  case conditions =>
    rw [exists_decode_eq_illegal_iff, exists_decode_eq_instr_iff, exists_assigned_iff, ← BitVec.toNat_inj,
      ← BitVec.toNat_inj, rsvdHiField_toNat, rsvdLoField_toNat, opcField_toNat, ordField_toNat, selField_toNat]
    obtain ⟨hN, hO⟩ := formatCodes_disjoint
    exact not_legal_iff (hN _) (hO _) _ _ _ _
  case report =>
    obtain ⟨hwrites, -⟩ := registerTransactions
    obtain ⟨-, -, -, -, -, hcmd⟩ := hwrites s rest w
    exact (hcmd hport).2 y hd

/-! ### Scripts (30_encoding.md R80) -/

/-- A run whose first step completes goes on from the next state. -/
theorem run_succ_of_step {s t : State} (n : Nat) (h : step s = .next t) : core.run (n + 1) s = core.run n t := by
  have h : core.step s = .next t := h
  simp only [Host.Core.run, h]

/-- Byte by byte, a list of writes stores the list; the offsets do not wrap inside the buffer. -/
theorem run_writeBytes {bytes : List Byte} {a : Nat} {s : State} {rest : List Transaction}
    (hcap : a + bytes.length ≤ pktCap) (hport : s.port = writeBytes a bytes ++ rest) :
    ∃ t : State, core.run bytes.length s = .next t ∧ t = { s with port := rest, pkt := t.pkt } ∧
      ∀ b : Nat, t.pktByte b = if a ≤ b ∧ b < a + bytes.length then byteAt bytes (b - a) else s.pktByte b := by
  induction bytes generalizing a s with
  | nil =>
    refine ⟨s, rfl, ?_, fun b => (if_neg fun hb => ?_).symm⟩
    · subst hport; rfl
    · obtain ⟨hlo, hhi⟩ := hb
      exact absurd hhi (Nat.not_lt.mpr hlo)
  | cons v bytes ih =>
    rw [List.length_cons] at hcap ⊢
    obtain ⟨t, hrun, ht, hbytes⟩ := ih (a := a + 1)
      (s := ({ s with port := writeBytes (a + 1) bytes ++ rest } : State).memWrite (BitVec.ofNat 16 a) v)
      (by omega) rfl
    refine ⟨t, (run_succ_of_step _ (step_cons s hport)).trans hrun, ht, fun b => ?_⟩
    have ha : (BitVec.ofNat 16 a).toNat = a := by rw [BitVec.toNat_ofNat]; unfold pktCap at hcap; omega
    rw [hbytes, State.memWrite_pktByte, ha]
    rcases Nat.lt_trichotomy b a with hb | rfl | hb
    · rw [if_neg (by omega), if_neg (by omega), if_neg (by omega)]; rfl
    · rw [if_neg (by omega), if_pos rfl, if_pos (by omega), Nat.sub_self]; rfl
    · have hbyte : byteAt (v :: bytes) (b - a) = byteAt bytes (b - (a + 1)) := by
        rw [show b - a = b - (a + 1) + 1 by omega]; rfl
      rw [if_neg hb.ne', hbyte]
      exact if_congr (by omega) rfl rfl

/-- Settles O54: the line expands to the writes of its bytes. -/
theorem scriptPktStoresBytes : Obligations.ScriptPktStoresBytes := by
  intro s a bytes rest hwf hport
  rw [ScriptLine.wf, Bool.and_eq_true, decide_eq_true_iff] at hwf
  exact run_writeBytes hwf.2 hport

end Sys2Proof.Proofs
end

section
/-! Proofs of the statements of 40_crc.md. -/

namespace Sys2Proof.Proofs

open Sys2Proof.Machine

/-! ### The reflected construction (R100)

A step is linear over XOR, and while the bit that leaves is 0 it only shifts. So the low bits of a value decide which
polynomials are added in, and the bits above them are shifted down untouched. -/

theorem tblentStep_eq_xor (poly r : Half) :
    tblentStep poly r = (r >>> 1) ^^^ (if r.getLsbD 0 then poly else 0) := by
  unfold tblentStep
  split <;> simp

theorem tblentStep_xor (poly a b : Half) :
    tblentStep poly (a ^^^ b) = tblentStep poly a ^^^ tblentStep poly b := by
  have hpoly : (if (a ^^^ b).getLsbD 0 then poly else 0) =
      (if a.getLsbD 0 then poly else 0) ^^^ (if b.getLsbD 0 then poly else 0) := by
    rw [BitVec.getLsbD_xor]
    cases a.getLsbD 0 <;> cases b.getLsbD 0 <;> simp
  rw [tblentStep_eq_xor, tblentStep_eq_xor poly a, tblentStep_eq_xor poly b, hpoly,
    BitVec.ushiftRight_xor_distrib]
  ac_rfl

theorem tblentSteps_xor (poly : Half) (n : Nat) (a b : Half) :
    tblentSteps poly n (a ^^^ b) = tblentSteps poly n a ^^^ tblentSteps poly n b := by
  induction n generalizing a b with
  | zero => rfl
  | succ n ih => rw [tblentSteps, tblentStep_xor, ih]; rfl

theorem tblentSteps_add (poly : Half) (m n : Nat) (r : Half) :
    tblentSteps poly (m + n) r = tblentSteps poly n (tblentSteps poly m r) := by
  induction m generalizing r with
  | zero => rw [Nat.zero_add]; rfl
  | succ m ih => rw [Nat.succ_add, tblentSteps, ih]; rfl

/-- While the low bits are 0 the steps are shifts. -/
theorem tblentSteps_of_low_zero (poly : Half) {n : Nat} {r : Half} (h : ∀ k < n, r.getLsbD k = false) :
    tblentSteps poly n r = r >>> n := by
  induction n generalizing r with
  | zero => simp [tblentSteps]
  | succ n ih =>
    have hshift : tblentStep poly r = r >>> 1 := by
      rw [tblentStep, h 0 (Nat.succ_pos n), if_neg Bool.false_ne_true]
    rw [tblentSteps, hshift, ih fun k hk => by rw [BitVec.getLsbD_ushiftRight]; exact h _ (by omega),
      Nat.add_comm n 1, BitVec.shiftRight_add]

theorem shiftRight_shiftLeft_xor_low (n : Nat) (r : Half) :
    (r >>> n <<< n) ^^^ BitVec.ofNat 16 (r.toNat % 2 ^ n) = r := by
  refine BitVec.eq_of_getLsbD_eq fun k hk => ?_
  rw [BitVec.getLsbD_xor, BitVec.getLsbD_shiftLeft, BitVec.getLsbD_ushiftRight, BitVec.getLsbD_ofNat,
    Nat.testBit_mod_two_pow, BitVec.testBit_toNat]
  by_cases hn : k < n
  · simp [hk, hn]
  · simp [hk, hn, Nat.add_sub_cancel' (Nat.le_of_not_lt hn)]

/-- `n` steps shift the high bits down and build from the `n` low bits alone what is added to them. -/
theorem tblentSteps_eq_shift_xor_low (poly : Half) (n : Nat) (r : Half) :
    tblentSteps poly n r = (r >>> n) ^^^ tblentSteps poly n (BitVec.ofNat 16 (r.toNat % 2 ^ n)) := by
  have hhigh : tblentSteps poly n (r >>> n <<< n) = r >>> n := by
    rw [tblentSteps_of_low_zero poly fun k hk => by simp [hk]]
    refine BitVec.eq_of_getLsbD_eq fun k _ => ?_
    rw [BitVec.getLsbD_ushiftRight, BitVec.getLsbD_shiftLeft, BitVec.getLsbD_ushiftRight, Nat.add_sub_cancel_left]
    by_cases hn : n + k < 16
    · simp [hn]
    · simp [BitVec.getLsbD_of_ge r (n + k) (Nat.le_of_not_lt hn)]
  conv_lhs => rw [← shiftRight_shiftLeft_xor_low n r, tblentSteps_xor, hhigh]

/-! ### The table (R109) -/

theorem tblent_zero (poly : Half) : tblent poly 0 = 0 := by
  rw [tblent, tblentSteps_of_low_zero poly fun k _ => by simp]
  rfl

theorem tblent_xor (poly : Half) (i j : Nat) : tblent poly (i ^^^ j) = tblent poly i ^^^ tblent poly j := by
  rw [tblent, BitVec.ofNat_xor, tblentSteps_xor]; rfl

/-- `m` shifts bring the bit of `2 ^ m` to the bottom, and the next step adds the polynomial into 0. -/
theorem tblentSteps_two_pow (poly : Half) {m : Nat} (hm : m < 16) :
    tblentSteps poly (m + 1) (BitVec.twoPow 16 m) = poly := by
  have hbits : ∀ k < m, (BitVec.twoPow 16 m).getLsbD k = false := fun k hk => by
    simp [BitVec.getLsbD_twoPow, hk.ne']
  have hone : BitVec.twoPow 16 m >>> m = 1 := by
    refine BitVec.eq_of_toNat_eq ?_
    rw [BitVec.toNat_ushiftRight, BitVec.toNat_twoPow_of_lt hm, Nat.shiftRight_eq_div_pow,
      Nat.div_self (Nat.two_pow_pos m)]
    rfl
  rw [tblentSteps_add, tblentSteps_of_low_zero poly hbits, hone]
  simp [tblentSteps, tblentStep]

theorem tblent_128 (poly : Half) : tblent poly 128 = poly := tblentSteps_two_pow (m := 7) poly (by decide)

theorem tblent_64 (poly : Half) :
    tblent poly 64 = (poly >>> 1) ^^^ (if poly.getLsbD 0 then poly else 0) := by
  have h : tblentSteps poly 7 64 = poly := tblentSteps_two_pow (m := 6) poly (by decide)
  rw [← tblentStep_eq_xor]
  exact (tblentSteps_add poly 7 1 64).trans (by rw [h]; rfl)

/-! ### The byte step (R101) -/

theorem shiftRight_eight_toNat (r : Half) : (r >>> 8).toNat = r.toNat / 256 := by
  rw [BitVec.toNat_ushiftRight, Nat.shiftRight_eq_div_pow]

theorem xor_byte_toNat (r : Half) (v : Byte) : (r ^^^ v.setWidth 16).toNat = r.toNat ^^^ v.toNat := by
  rw [BitVec.toNat_xor, BitVec.toNat_setWidth_of_le (by decide)]

/-- The index of the byte step: the low byte of `r ^ v`. -/
theorem crcIndex_toNat (r : Half) (v : Byte) :
    (((r ^^^ v.setWidth 16) &&& 0x00FF#16).setWidth 8).toNat = (r.toNat ^^^ v.toNat) % 256 := by
  have hmask : (0x00FF#16).toNat = 2 ^ 8 - 1 := rfl
  rw [BitVec.toNat_setWidth, BitVec.toNat_and, hmask, Nat.and_two_pow_sub_one_eq_mod, Nat.mod_mod, xor_byte_toNat]

/-- The byte step through the built table. -/
theorem crcStep_crcTable (poly r : Half) (v : Byte) :
    crcStep (crcTable poly) r v = (r >>> 8) ^^^ tblent poly ((r.toNat ^^^ v.toNat) % 256) := by
  rw [crcStep, tblAt_crcTable, crcIndex_toNat]

/-- Settles O33: the byte step with the shift as a division. -/
theorem crcStepFormula : Obligations.CrcStepFormula := by
  intro poly r v
  rw [crcStep_crcTable, ← shiftRight_eight_toNat, BitVec.ofNat_toNat, BitVec.setWidth_eq]

/-! ### The span (R102, R109) -/

theorem crcSpan_append (table : Vector Half 256) (init : Half) (as bs : List Byte) :
    crcSpan table init (as ++ bs) = crcSpan table (crcSpan table init as) bs :=
  List.foldl_append

theorem pktBytes_succ (s : State) (o n : Nat) : s.pktBytes o (n + 1) = s.pktBytes o n ++ [s.pktByte (o + n)] := by
  rw [State.pktBytes, List.range_succ, List.map_append]
  rfl

/-- Settles O34: linearity and the two worked entries; a span one byte longer is one fold step more. -/
theorem tableAndSpanLaws : Obligations.TableAndSpanLaws := by
  refine ⟨fun poly => ⟨tblent_zero poly, tblent_128 poly, tblent_64 poly, fun i j _ _ => tblent_xor poly i j⟩,
    fun table init s o n => ⟨rfl, ?_⟩⟩
  rw [pktBytes_succ, crcSpan_append]
  rfl

/-! ### The bit-serial CRC (93_implementation_defined.md G2) -/

/-- A byte XORed into the low half leaves the high byte. -/
theorem xor_byte_shiftRight (r : Half) (v : Byte) : (r ^^^ v.setWidth 16) >>> 8 = r >>> 8 := by
  have hzero : v.setWidth 16 >>> 8 = 0#16 := by
    refine BitVec.eq_of_toNat_eq ?_
    rw [shiftRight_eight_toNat, BitVec.toNat_setWidth_of_le (by decide)]
    exact Nat.div_eq_of_lt v.isLt
  rw [BitVec.ushiftRight_xor_distrib, hzero, BitVec.xor_zero]

/-- The two constructions agree on one byte: eight steps shift the high byte down and add the entry of the low
byte. -/
theorem crcStep_crcTable_eq_serial (poly r : Half) (v : Byte) :
    crcStep (crcTable poly) r v = crcSerialByte poly r v := by
  rw [crcStep_crcTable, crcSerialByte, tblentSteps_eq_shift_xor_low, xor_byte_toNat, xor_byte_shiftRight]
  rfl

theorem crcSpan_crcTable (poly init : Half) (bytes : List Byte) :
    crcSpan (crcTable poly) init bytes = crcSerial poly init bytes := by
  unfold crcSpan crcSerial
  congr 1
  funext r v
  exact crcStep_crcTable_eq_serial poly r v

/-- Settles O35: the two folds agree byte by byte. -/
theorem tableCrcEqualsBitSerial : Obligations.TableCrcEqualsBitSerial := crcSpan_crcTable

/-- A register meeting its own low byte leaves its high byte: eight shifts and no polynomial. -/
theorem crcSerialByte_low (poly c : Half) : crcSerialByte poly c (c.setWidth 8) = c >>> 8 := by
  have hlow : ∀ k < 8, (c ^^^ (c.setWidth 8).setWidth 16).getLsbD k = false := fun k hk => by
    simp [hk, Nat.lt_trans hk (by decide : 8 < 16)]
  rw [crcSerialByte, tblentSteps_of_low_zero poly hlow, xor_byte_shiftRight]

/-- A register that is one byte, meeting that byte, is cancelled. -/
theorem crcSerialByte_self (poly : Half) (v : Byte) : crcSerialByte poly (v.setWidth 16) v = 0 := by
  rw [crcSerialByte, BitVec.xor_self, tblentSteps_of_low_zero poly fun k _ => by simp]
  rfl

/-- Settles O36: the low byte of the CRC cancels the low half of the register, the high byte the rest. -/
theorem residueVanishes : Obligations.ResidueVanishes := by
  intro poly init bytes c
  have hlowByte : BitVec.ofNat 8 (c.toNat % 256) = c.setWidth 8 :=
    BitVec.eq_of_toNat_eq (by simp)
  have hhighByte : (BitVec.ofNat 8 (c.toNat / 256)).setWidth 16 = c >>> 8 := by
    refine BitVec.eq_of_toNat_eq ?_
    rw [BitVec.toNat_setWidth_of_le (by decide), BitVec.toNat_ofNat, shiftRight_eight_toNat]
    omega
  calc crcSpan (crcTable poly) init (bytes ++ [BitVec.ofNat 8 (c.toNat % 256), BitVec.ofNat 8 (c.toNat / 256)])
      = crcSerialByte poly (crcSerialByte poly c (c.setWidth 8)) (BitVec.ofNat 8 (c.toNat / 256)) := by
        rw [crcSpan_append, crcSpan_crcTable poly c, hlowByte]; rfl
    _ = crcSerialByte poly ((BitVec.ofNat 8 (c.toNat / 256)).setWidth 16) (BitVec.ofNat 8 (c.toNat / 256)) := by
        rw [crcSerialByte_low, hhighByte]
    _ = 0 := crcSerialByte_self poly _

/-! ### The commands (R105 to R108) -/

/-- Settles O29: under the invariant the rebuilt table is the one that was there. -/
theorem tinitBuildsTable : Obligations.TinitBuildsTable := by
  have htinit (s : State) :
      exec .tinit s = .next { s with tbl := crcTable Config.crc16Poly, tv := true, rc := .ok } :=
    congrArg Host.Outcome.next (s.build_done Config.params)
  refine ⟨decode_encode .tinit, htinit, fun s hinv htv => ?_, fun t h => ?_⟩
  · rw [htinit, ← hinv.tableBuilt htv, ← htv]
  · cases h
    rfl

/-- Settles O30, case by case of the bounds rule; the worked example runs bit-serially. -/
theorem crc16FoldsSpan : Obligations.Crc16FoldsSpan := by
  refine ⟨decode_encode .crc16,
    fun s => ⟨fun hlen hout => ?refused, fun hlen hspan hcap => ?inBounds, fun hlen => ?empty⟩, ?workedExample⟩
  case refused =>
    have hb : s.inb s.off.toNat s.len.toNat = false := by
      rw [Bool.eq_false_iff, Ne, State.inb_iff]; exact hout
    exact (crc16With_of_not_inb _ s hlen hb).trans (congrArg _ (s.fail_error rfl))
  case inBounds =>
    have hb : s.inb s.off.toNat s.len.toNat = true := (s.inb_iff _ _).mpr ⟨hspan, hcap⟩
    refine (crc16With_of_inb _ s hb).trans ?_
    rw [State.ensureTable_setCrc_done, State.ensureTable_tbl]
    rfl
  case empty => exact (crc16With_of_empty _ s hlen).trans (congrArg _ (s.ensureTable_setCrc_done _ _))
  case workedExample =>
    rw [crcSpan_crcTable]
    decide +kernel

/-- Settles O31 by the verdict of the comparison. -/
theorem crccmpCompares : Obligations.CrccmpCompares := by
  refine ⟨decode_encode .crccmp, fun s => ?_⟩
  have hequal : (s.crc == lowHalf s.val) = true ↔ s.crc.toNat = s.val.toNat % 65536 := crccmp_matched (s := s) rfl
  have hexec : exec .crccmp s = .next { s with
      matched := s.crc == lowHalf s.val, rc := ResultCode.ofVerdict (s.crc == lowHalf s.val) } :=
    congrArg Host.Outcome.next (s.verdict_eq _)
  refine ⟨fun h => ?_, fun h => ?_⟩
  · rw [hexec, hequal.mpr h]; rfl
  · rw [hexec, Bool.eq_false_of_not_eq_true (mt hequal.mp h)]; rfl

theorem tblrdWith_of_le (p : Params) (s : State) (h : s.off.toNat ≤ 255) :
    tblrdWith p s = .next ((s.ensureTable p).setVal
      (zext32Half (tblAt (s.ensureTable p).tbl (s.off.setWidth 8)))).done := by
  rw [tblrdWith, if_neg (Nat.not_lt.mpr h)]
  simp only [State.ensureTable_off]

/-- An index `TBLRD` accepts fits the 8 bits that address the table. -/
theorem tblIndex_toNat {off : Half} (h : off.toNat ≤ 255) : (off.setWidth 8).toNat = off.toNat := by
  rw [BitVec.toNat_setWidth, Nat.mod_eq_of_lt (by omega)]

theorem getElem?_eq_tblAt (table : Vector Half 256) (i : Byte) : table[i.toNat]? = some (tblAt table i) :=
  Vector.getElem?_eq_getElem i.isLt

/-- Under the invariant `TBLRD` reads `tblent` at its index. -/
theorem tblAt_ensureTable {s : State} (hinv : s.Inv) (h : s.off.toNat ≤ 255) :
    tblAt (s.ensureTable Config.params).tbl (s.off.setWidth 8) = tblent Config.crc16Poly s.off.toNat := by
  rw [inv_ensureTable_tbl hinv, tblAt_crcTable, tblIndex_toNat h]

/-- Settles O32: the index check, then the entry of the table found or built. -/
theorem tblrdReadsEntry : Obligations.TblrdReadsEntry := by
  refine ⟨decode_encode .tblrd, fun s h => ?refused, fun s h => ?entry, fun s hinv h => ?entry128⟩
  case refused => exact (if_pos h).trans (congrArg Host.Outcome.next (s.fail_error rfl))
  case entry =>
    refine ⟨tblAt (s.ensureTable Config.params).tbl (s.off.setWidth 8), ?_, ?_, fun hinv => tblAt_ensureTable hinv h⟩
    · refine (tblrdWith_of_le _ s h).trans ?_
      rw [State.ensureTable_setVal_done, zext32Half, BitVec.ofNat_toNat]
      rfl
    · rw [State.ensureTable_tbl, ← tblIndex_toNat h]
      exact getElem?_eq_tblAt _ _
  case entry128 =>
    refine ⟨_, tblrdWith_of_le _ s (by omega), ?_⟩
    rw [tblAt_ensureTable hinv (by omega), h, tblent_128, BitVec.ofNat_toNat]
    rfl

end Sys2Proof.Proofs
end

section
/-! Proofs of the statements of 41_extract.md. -/

namespace Sys2Proof.Proofs

open Sys2Proof.Machine

/-! ### A word and its four octets

Every assembly and permutation of the extract family is one arrangement of octets, so that two byte orders compare
octet by octet and the arithmetic is done once. -/

/-- The word with these octets, most significant first. -/
def octets (b3 b2 b1 b0 : Byte) : Word := b3 ++ (b2 ++ (b1 ++ b0))

theorem octets_toNat (b3 b2 b1 b0 : Byte) : (octets b3 b2 b1 b0).toNat =
    b3.toNat * 16777216 + b2.toNat * 65536 + b1.toNat * 256 + b0.toNat := by
  simp only [octets, toNat_append_eq_add]
  omega

theorem octets_eq_ofNat (b3 b2 b1 b0 : Byte) : octets b3 b2 b1 b0 =
    BitVec.ofNat 32 (b3.toNat * 16777216 + b2.toNat * 65536 + b1.toNat * 256 + b0.toNat) := by
  rw [← octets_toNat, BitVec.ofNat_toNat, BitVec.setWidth_eq]

theorem extractLsb'_octets (b3 b2 b1 b0 : Byte) :
    (octets b3 b2 b1 b0).extractLsb' 24 8 = b3 ∧ (octets b3 b2 b1 b0).extractLsb' 16 8 = b2 ∧
      (octets b3 b2 b1 b0).extractLsb' 8 8 = b1 ∧ (octets b3 b2 b1 b0).extractLsb' 0 8 = b0 := by
  refine ⟨?_, ?_, ?_, ?_⟩ <;>
  · apply BitVec.eq_of_toNat_eq
    rw [BitVec.extractLsb'_toNat, Nat.shiftRight_eq_div_pow, octets_toNat]
    omega

theorem bswap16_octets (b3 b2 b1 b0 : Byte) : bswap16 (octets b3 b2 b1 b0) = octets b3 b2 b0 b1 := by
  simp only [bswap16, extractLsb'_octets]
  rfl

theorem bswap32_octets (b3 b2 b1 b0 : Byte) : bswap32 (octets b3 b2 b1 b0) = octets b0 b1 b2 b3 := by
  simp only [bswap32, extractLsb'_octets]
  rfl

theorem pswap_octets (b3 b2 b1 b0 : Byte) : pswap (octets b3 b2 b1 b0) = octets b2 b3 b0 b1 := by
  simp only [pswap, extractLsb'_octets]
  rfl

/-! ### Assembly (00_scope.md R7) and extension (R8) -/

/-- A value shifted past the bits of another is added to it. -/
theorem toNat_shiftLeft_or {w : Nat} (x y : BitVec w) (n : Nat) (hy : y.toNat < 2 ^ n)
    (hx : x.toNat * 2 ^ n < 2 ^ w) : (x <<< n ||| y).toNat = x.toNat * 2 ^ n + y.toNat := by
  rw [BitVec.toNat_or, BitVec.toNat_shiftLeft, Nat.shiftLeft_eq, Nat.mod_eq_of_lt hx, Nat.mul_comm,
    Nat.two_pow_add_eq_or_of_lt hy]

/-- Two bytes put together as `asm16` does. -/
theorem half_of_bytes (hi lo : Byte) : (hi.setWidth 16 <<< 8) ||| lo.setWidth 16 = hi ++ lo := by
  have hhi : (hi.setWidth 16).toNat = hi.toNat := BitVec.toNat_setWidth_of_le (by decide)
  have hlo : (lo.setWidth 16).toNat = lo.toNat := BitVec.toNat_setWidth_of_le (by decide)
  apply BitVec.eq_of_toNat_eq
  rw [toNat_shiftLeft_or _ _ 8 (by omega) (by omega), toNat_append_eq_add]
  omega

/-- Four bytes put together as `asm32` does. -/
theorem word_of_bytes (b3 b2 b1 b0 : Byte) : (b3.setWidth 32 <<< 24) ||| (b2.setWidth 32 <<< 16) |||
    (b1.setWidth 32 <<< 8) ||| b0.setWidth 32 = octets b3 b2 b1 b0 := by
  have hbyte (b : Byte) : (b.setWidth 32).toNat = b.toNat := BitVec.toNat_setWidth_of_le (by decide)
  have h1 : (b1.setWidth 32 <<< 8 ||| b0.setWidth 32).toNat = b1.toNat * 2 ^ 8 + b0.toNat := by
    rw [toNat_shiftLeft_or _ _ 8] <;> simp only [hbyte] <;> omega
  have h2 : (b2.setWidth 32 <<< 16 ||| (b1.setWidth 32 <<< 8 ||| b0.setWidth 32)).toNat =
      b2.toNat * 2 ^ 16 + (b1.toNat * 2 ^ 8 + b0.toNat) := by
    rw [toNat_shiftLeft_or _ _ 16] <;> simp only [hbyte, h1] <;> omega
  apply BitVec.eq_of_toNat_eq
  rw [BitVec.or_assoc, BitVec.or_assoc, toNat_shiftLeft_or _ _ 24, octets_toNat] <;>
    simp only [hbyte, h2] <;> omega

theorem zext32Half_append (hi lo : Byte) : zext32Half (hi ++ lo) = octets 0#8 0#8 hi lo := by
  apply BitVec.eq_of_toNat_eq
  rw [zext32Half, BitVec.toNat_setWidth_of_le (by decide), toNat_append_eq_add, octets_toNat, BitVec.toNat_zero]
  omega

theorem zext32Half_asm16_le (b : List Byte) :
    zext32Half (asm16 .le b) = octets 0#8 0#8 (byteAt b 1) (byteAt b 0) := by
  rw [asm16, half_of_bytes, zext32Half_append]

theorem zext32Half_asm16_be (b : List Byte) :
    zext32Half (asm16 .be b) = octets 0#8 0#8 (byteAt b 0) (byteAt b 1) := by
  rw [asm16, half_of_bytes, zext32Half_append]

theorem asm32_le (b : List Byte) :
    asm32 .le b = octets (byteAt b 3) (byteAt b 2) (byteAt b 1) (byteAt b 0) := word_of_bytes _ _ _ _

theorem asm32_be (b : List Byte) :
    asm32 .be b = octets (byteAt b 0) (byteAt b 1) (byteAt b 2) (byteAt b 3) := word_of_bytes _ _ _ _

theorem ipOctets_of_lt_two {k : BitVec 4} (hk : k.toNat < 2) (b : List Byte) : ipOctets k b = asm32 .be b := by
  rw [asm32_be]
  refine if_pos ?_
  bv_omega

theorem ipOctets_of_two_le {k : BitVec 4} (hk : 2 ≤ k.toNat) (b : List Byte) :
    ipOctets k b = octets (byteAt b 1) (byteAt b 0) (byteAt b 3) (byteAt b 2) := by
  refine if_neg ?_
  bv_omega

/-- The signed value of a 16-bit field: the top bit is that of its high byte. -/
theorem sext32Half_append (hi lo : Byte) : sext32Half (hi ++ lo) = BitVec.ofInt 32
    (if (hi.toNat : Int) < 128 then hi.toNat * 256 + lo.toNat else hi.toNat * 256 + lo.toNat - 65536) := by
  refine congrArg (BitVec.ofInt 32) ?_
  rw [BitVec.toInt_eq_toNat_cond, toNat_append_eq_add]
  split <;> split <;> omega

theorem sext16_zext32Half (v : Half) : sext16 (zext32Half v) = sext32Half v := by
  refine congrArg sext32Half (BitVec.eq_of_toNat_eq ?_)
  rw [zext32Half, lowHalf, BitVec.extractLsb'_toNat, Nat.shiftRight_zero, BitVec.toNat_setWidth_of_le (by decide),
    Nat.mod_eq_of_lt v.isLt]

/-- 41_extract.md R132: shift and mask are division and remainder. -/
theorem dioLine_eq_ofNat (n : BitVec 4) (b : List Byte) :
    dioLine n b = BitVec.ofNat 32 ((byteAt b (n.toNat / 8)).toNat / 2 ^ (n.toNat % 8) % 2) := by
  have hbyte : (n >>> 3).toNat = n.toNat / 8 := by
    rw [BitVec.toNat_ushiftRight, Nat.shiftRight_eq_div_pow]
  have hbit : (n &&& 7).toNat = n.toNat % 8 := by
    rw [BitVec.toNat_and]
    exact Nat.and_two_pow_sub_one_eq_mod n.toNat 3
  rw [dioLine, zext32Byte, hbyte, hbit, ← BitVec.ofNat_toNat, BitVec.toNat_and, BitVec.toNat_ushiftRight,
    Nat.shiftRight_eq_div_pow]
  exact congrArg _ (Nat.and_one_is_mod _)

/-! ### The shared extract operation (41_extract.md R120) -/

section

variable {n : Nat} {f : List Byte → Word} {s : State}

/-- Within the bounds `VAL` and `RC` are written and nothing else. -/
theorem extract_inBounds (h : s.off.toNat + n ≤ s.plen.toNat ∧ s.plen.toNat ≤ 65536) :
    extract n f s = .next { s with val := f (s.pktBytes s.off.toNat n), rc := .ok } := by
  rw [extract_of_inb n f s ((s.inb_iff _ _).mpr h), State.setVal_done]

/-- Out of bounds `RC` and `ES` are written and nothing else. -/
theorem extract_outOfBounds (h : s.plen.toNat < s.off.toNat + n ∨ 65536 < s.plen.toNat) :
    extract n f s = .next { s with rc := .invalidInput, es := true } := by
  have hb : s.inb s.off.toNat n = false := by
    rw [Bool.eq_false_iff, Ne, State.inb_iff]
    omega
  rw [extract_of_not_inb n f s hb, s.fail_error rfl]

/-- An extract command followed by a datapath command delivers the transformed value. -/
theorem thenExec_extract {i : Instr} {g : Word → Word} (hi : ∀ t, exec i t = onVal g t)
    (h : s.off.toNat + n ≤ s.plen.toNat ∧ s.plen.toNat ≤ 65536) :
    thenExec (extract n f s) i = extract n (fun b => g (f b)) s := by
  rw [extract_inBounds h, extract_inBounds h, thenExec, hi, onVal, State.setVal_done]

end

/-! ### Selector words (30_encoding.md R73) -/

theorem commandWord_selector (opc : Byte) (sel : BitVec 4) :
    commandWord opc 0#2 sel = BitVec.ofNat 32 (opc.toNat + 4096 * sel.toNat) := by
  apply BitVec.eq_of_toNat_eq
  simp only [commandWord_toNat, BitVec.toNat_ofNat]
  omega

/-! ### The commands (R121 to R132) -/

/-- Settles O39 from the two cases of the bounds rule. -/
theorem getbReadsOneByte : Obligations.GetbReadsOneByte := by
  refine ⟨decode_encode .getb, fun s => ⟨fun h => ?_, fun h => extract_outOfBounds (by omega)⟩⟩
  refine (extract_inBounds h).trans ?_
  rw [s.byteAt_pktBytes _ _ _ Nat.one_pos, zext32Byte, BitVec.ofNat_toNat]
  rfl

/-- Settles O40: both orders arrange the same two octets, and `BSWAP16` exchanges them. -/
theorem gethReadsTwoBytes : Obligations.GethReadsTwoBytes := by
  refine ⟨decode_encode .gethT, decode_encode .gethLE, decode_encode .gethBE, fun s => ?_⟩
  intro b0 b1
  refine ⟨fun h => ?inBounds, fun h => ?outOfBounds⟩
  case inBounds =>
    have hLE : exec .gethLE s = .next { s with val := BitVec.ofNat 32 (b1 * 256 + b0), rc := .ok } := by
      refine (extract_inBounds h).trans ?_
      simp [zext32Half_asm16_le, octets_eq_ofNat, State.byteAt_pktBytes, b0, b1]
    have hBE : exec .gethBE s = .next { s with val := BitVec.ofNat 32 (b0 * 256 + b1), rc := .ok } := by
      refine (extract_inBounds h).trans ?_
      simp [zext32Half_asm16_be, octets_eq_ofNat, State.byteAt_pktBytes, b0, b1]
    refine ⟨(gethT_eq_gethLE s).trans hLE, hLE, hBE, ?_⟩
    refine (thenExec_extract (fun _ => rfl) h).trans ?_
    simp only [zext32Half_asm16_le, bswap16_octets, ← zext32Half_asm16_be]
    rfl
  case outOfBounds =>
    exact ⟨(gethT_eq_gethLE s).trans (extract_outOfBounds h), extract_outOfBounds h, extract_outOfBounds h⟩

/-- `GETW.BE` within the bounds, whose word `GETIP` delivers too. -/
theorem getwBE_inBounds {s : State} (h : s.off.toNat + 4 ≤ s.plen.toNat ∧ s.plen.toNat ≤ 65536) :
    exec .getwBE s = .next { s with
      val := BitVec.ofNat 32 ((s.pktByte s.off.toNat).toNat * 16777216 + (s.pktByte (s.off.toNat + 1)).toNat * 65536 +
        (s.pktByte (s.off.toNat + 2)).toNat * 256 + (s.pktByte (s.off.toNat + 3)).toNat), rc := .ok } := by
  refine (extract_inBounds h).trans ?_
  simp [asm32_be, octets_eq_ofNat, State.byteAt_pktBytes]

/-- Settles O41: both orders arrange the same four octets, and `BSWAP32` reverses them. -/
theorem getwReadsFourBytes : Obligations.GetwReadsFourBytes := by
  refine ⟨decode_encode .getwT, decode_encode .getwLE, decode_encode .getwBE, fun s => ?_⟩
  intro b0 b1 b2 b3 le be
  refine ⟨fun h => ?inBounds, fun h => ⟨extract_outOfBounds h, extract_outOfBounds h, extract_outOfBounds h⟩⟩
  have hLE : exec .getwLE s = .next { s with val := le, rc := .ok } := by
    refine (extract_inBounds h).trans ?_
    simp [asm32_le, octets_eq_ofNat, State.byteAt_pktBytes, le, b0, b1, b2, b3]
  refine ⟨hLE, hLE, getwBE_inBounds h, ?_⟩
  refine (thenExec_extract (fun _ => rfl) h).trans ?_
  simp only [asm32_le, bswap32_octets, ← asm32_be]
  rfl

/-- Settles O42: the sign is the top bit of the byte the order puts first. -/
theorem getshSignExtends : Obligations.GetshSignExtends := by
  refine ⟨decode_encode .getshT, decode_encode .getshLE, decode_encode .getshBE, fun s => ?_⟩
  intro b0 b1 le be
  refine ⟨fun h => ?inBounds, fun h => ⟨extract_outOfBounds h, extract_outOfBounds h, extract_outOfBounds h⟩⟩
  have hLE : exec .getshLE s = .next { s with val := le, rc := .ok } := by
    refine (extract_inBounds h).trans ?_
    rw [asm16, half_of_bytes, sext32Half_append]
    simp [State.byteAt_pktBytes, le, b0, b1]
  have hBE : exec .getshBE s = .next { s with val := be, rc := .ok } := by
    refine (extract_inBounds h).trans ?_
    rw [asm16, half_of_bytes, sext32Half_append]
    simp [State.byteAt_pktBytes, be, b0, b1]
  refine ⟨hLE, hLE, hBE, ?_⟩
  rw [gethT_eq_gethLE]
  refine (thenExec_extract (fun _ => rfl) h).trans ?_
  simp only [sext16_zext32Half]
  rfl

/-- An accepted `GETIP` is the shared extract of four bytes. -/
theorem getip_of_lt {k : BitVec 4} (hk : k.toNat < 4) (s : State) :
    exec (.getip k) s = extract 4 (ipOctets k) s := if_neg (Nat.not_le.mpr hk)

/-- Settles O43: the selector is checked first; the two octet orders are `GETW.BE` and its `PSWAP`. -/
theorem getipOrdersOctets : Obligations.GetipOrdersOctets := by
  refine ⟨fun k => decode_eq_instr_iff.mpr (commandWord_selector 0x14 k), fun s k => ?_⟩
  intro b0 b1 b2 b3
  refine ⟨fun hk => ?unknown, fun hk h => ?outOfBounds, fun hk hspan hcap => ?natural,
    fun hlo hk hspan hcap => ?paired⟩
  case unknown => exact (if_pos hk).trans (congrArg _ (s.fail_error rfl))
  case outOfBounds => exact (getip_of_lt hk s).trans (extract_outOfBounds h)
  case natural =>
    have hexec : exec (.getip k) s = exec .getwBE s := by
      rw [getip_of_lt (by omega), funext (ipOctets_of_lt_two hk)]
      rfl
    exact ⟨hexec.trans (getwBE_inBounds ⟨hspan, hcap⟩), hexec⟩
  case paired =>
    rw [getip_of_lt hk, funext (ipOctets_of_two_le hlo)]
    refine ⟨(extract_inBounds ⟨hspan, hcap⟩).trans ?_, .symm ?_⟩
    · simp [octets_eq_ofNat, State.byteAt_pktBytes, b0, b1, b2, b3]
    · refine (thenExec_extract (fun _ => rfl) ⟨hspan, hcap⟩).trans ?_
      simp only [asm32_be, pswap_octets]

/-- Settles O44: the line's byte is one of the two read, whatever the selector. -/
theorem getdioReadsLine : Obligations.GetdioReadsLine := by
  refine ⟨fun n => decode_eq_instr_iff.mpr (commandWord_selector 0x15 n),
    fun s n => ⟨fun h => ?_, fun h => extract_outOfBounds h⟩⟩
  refine (extract_inBounds h).trans ?_
  rw [dioLine_eq_ofNat, s.byteAt_pktBytes _ _ _ (by omega)]

end Sys2Proof.Proofs
end

section
/-! Proofs of the statements of 42_datapath.md. -/

namespace Sys2Proof.Proofs

open Sys2Proof.Machine

/-! ### A word by its octets (R141 to R144) -/

theorem extractLsb'_toNat_eq_div_mod (w : Word) (k n : Nat) :
    (w.extractLsb' k n).toNat = w.toNat / 2 ^ k % 2 ^ n := by
  rw [BitVec.extractLsb'_toNat, Nat.shiftRight_eq_div_pow]

theorem exists_octets (w : Word) : ∃ b3 b2 b1 b0 : Byte, w = octets b3 b2 b1 b0 := by
  refine ⟨w.extractLsb' 24 8, w.extractLsb' 16 8, w.extractLsb' 8 8, w.extractLsb' 0 8, BitVec.eq_of_toNat_eq ?_⟩
  simp only [octets_toNat, extractLsb'_toNat_eq_div_mod]
  omega

theorem octets_byte_values (b3 b2 b1 b0 : Byte) :
    (octets b3 b2 b1 b0).toNat / 16777216 = b3.toNat ∧ (octets b3 b2 b1 b0).toNat / 65536 % 256 = b2.toNat ∧
      (octets b3 b2 b1 b0).toNat / 256 % 256 = b1.toNat ∧ (octets b3 b2 b1 b0).toNat % 256 = b0.toNat := by
  rw [octets_toNat]
  omega

theorem hswap_octets (b3 b2 b1 b0 : Byte) : hswap (octets b3 b2 b1 b0) = octets b1 b0 b3 b2 := by
  simp only [hswap, extractLsb'_octets]
  rfl

/-- R144: `PSWAP` is the two other whole-word swaps in either order. -/
theorem pswap_eq_hswap_bswap32 (w : Word) : pswap w = hswap (bswap32 w) ∧ pswap w = bswap32 (hswap w) := by
  obtain ⟨b3, b2, b1, b0, rfl⟩ := exists_octets w
  simp only [pswap_octets, hswap_octets, bswap32_octets, and_self]

/-! ### The shared datapath operation (R140) -/

theorem onVal_eq (f : Word → Word) (s : State) : onVal f s = .next { s with val := f s.val, rc := .ok } := by
  rw [onVal, State.setVal_done]

/-- One datapath command after another is the composed function of `VAL`. -/
theorem thenExec_onVal {f g : Word → Word} {s : State} {j : Instr} (hj : ∀ t, exec j t = onVal g t) :
    thenExec (onVal f s) j = onVal (fun v => g (f v)) s := by
  rw [onVal_eq, onVal_eq, thenExec, hj, onVal_eq]

theorem onVal_congr {f g : Word → Word} {s : State} (h : f s.val = g s.val) : onVal f s = onVal g s := by
  rw [onVal, onVal, h]

theorem val_eq_of_onVal_eq {f g : Word → Word} {s : State} (h : onVal f s = onVal g s) : f s.val = g s.val := by
  rw [onVal_eq, onVal_eq] at h
  injection h with h
  exact congrArg State.val h

/-! ### The four swaps -/

/-- The four byte permutations. -/
abbrev swaps : List Instr := [.bswap16, .bswap32, .hswap, .pswap]

/-- What a swap makes of `VAL`; the other commands are no swaps. -/
def swapOf : Instr → Word → Word
  | .bswap16 => bswap16
  | .bswap32 => bswap32
  | .hswap => hswap
  | .pswap => pswap
  | _ => id

theorem exec_swap {i : Instr} (hi : i ∈ swaps) (s : State) : exec i s = onVal (swapOf i) s := by
  fin_cases hi <;> rfl

theorem thenExec_swap {i j : Instr} (hi : i ∈ swaps) (hj : j ∈ swaps) (s : State) :
    thenExec (exec i s) j = onVal (fun v => swapOf j (swapOf i v)) s := by
  rw [exec_swap hi, thenExec_onVal (exec_swap hj)]

theorem swapOf_involutive {i : Instr} (hi : i ∈ swaps) (w : Word) : swapOf i (swapOf i w) = w := by
  obtain ⟨b3, b2, b1, b0, rfl⟩ := exists_octets w
  fin_cases hi <;> simp only [swapOf, bswap16_octets, bswap32_octets, hswap_octets, pswap_octets]

/-- `PSWAP` acts on each half alone and alike, so it commutes with what changes one half or moves both. -/
theorem swapOf_pswap_comm {i : Instr} (hi : i ∈ swaps) (w : Word) : pswap (swapOf i w) = swapOf i (pswap w) := by
  obtain ⟨b3, b2, b1, b0, rfl⟩ := exists_octets w
  fin_cases hi <;> simp only [swapOf, bswap16_octets, bswap32_octets, hswap_octets, pswap_octets]

/-- The pairs that R149 lets commute: the same swap twice, one with `PSWAP`, `HSWAP` with `BSWAP32`. -/
theorem commuting_pairs : ∀ i ∈ swaps, ∀ j ∈ swaps,
    ¬ (i = .bswap16 ∧ (j = .hswap ∨ j = .bswap32)) → ¬ (j = .bswap16 ∧ (i = .hswap ∨ i = .bswap32)) →
    i = j ∨ j = .pswap ∨ i = .pswap ∨ i = .bswap32 ∧ j = .hswap ∨ i = .hswap ∧ j = .bswap32 := by decide

theorem swapOf_comm {i j : Instr} (hi : i ∈ swaps) (hj : j ∈ swaps)
    (hij : ¬ (i = .bswap16 ∧ (j = .hswap ∨ j = .bswap32))) (hji : ¬ (j = .bswap16 ∧ (i = .hswap ∨ i = .bswap32)))
    (w : Word) : swapOf j (swapOf i w) = swapOf i (swapOf j w) := by
  have hcomm : hswap (bswap32 w) = bswap32 (hswap w) := by
    rw [← (pswap_eq_hswap_bswap32 w).1, ← (pswap_eq_hswap_bswap32 w).2]
  obtain rfl | rfl | rfl | ⟨rfl, rfl⟩ | ⟨rfl, rfl⟩ := commuting_pairs i hi j hj hij hji
  · rfl
  · exact swapOf_pswap_comm hi w
  · exact (swapOf_pswap_comm hj w).symm
  · exact hcomm
  · exact hcomm.symm

theorem thenExec_swap_self {i : Instr} (hi : i ∈ swaps) (s : State) :
    thenExec (exec i s) i = .next { s with rc := .ok } := by
  rw [thenExec_swap hi hi, onVal_eq, swapOf_involutive hi]

theorem thenExec_bswap32_hswap (s : State) : thenExec (exec .bswap32 s) .hswap = exec .pswap s :=
  (thenExec_onVal fun _ => rfl).trans (onVal_congr (pswap_eq_hswap_bswap32 _).1.symm)

theorem thenExec_hswap_bswap32 (s : State) : thenExec (exec .hswap s) .bswap32 = exec .pswap s :=
  (thenExec_onVal fun _ => rfl).trans (onVal_congr (pswap_eq_hswap_bswap32 _).2.symm)

/-- Settles O45: each swap arranges the octets of `VAL` anew. -/
theorem swapsPermuteBytes : Obligations.SwapsPermuteBytes := by
  refine ⟨decode_encode .bswap16, decode_encode .bswap32, decode_encode .hswap, decode_encode .pswap, fun s => ?_⟩
  intro v3 v2 v1 v0
  obtain ⟨b3, b2, b1, b0, hval⟩ := exists_octets s.val
  obtain ⟨h3, h2, h1, h0⟩ : v3 = b3.toNat ∧ v2 = b2.toNat ∧ v1 = b1.toNat ∧ v0 = b0.toNat := by
    simpa only [v3, v2, v1, v0, hval] using octets_byte_values b3 b2 b1 b0
  rw [h3, h2, h1, h0]
  refine ⟨?bswap16, ?bswap32, ?hswap, ?pswap, fun i hi => thenExec_swap_self hi s, thenExec_bswap32_hswap s,
    thenExec_hswap_bswap32 s⟩
  case bswap16 => exact (onVal_eq _ s).trans (by rw [hval, bswap16_octets, octets_eq_ofNat])
  case bswap32 => exact (onVal_eq _ s).trans (by rw [hval, bswap32_octets, octets_eq_ofNat])
  case hswap => exact (onVal_eq _ s).trans (by rw [hval, hswap_octets, octets_eq_ofNat])
  case pswap => exact (onVal_eq _ s).trans (by rw [hval, pswap_octets, octets_eq_ofNat])

/-! ### Sign extension (R145) -/

theorem sext16_eq_ofInt (w : Word) : sext16 w = BitVec.ofInt 32
    (if ((w.toNat % 65536 : Nat) : Int) < 32768 then ((w.toNat % 65536 : Nat) : Int)
      else ((w.toNat % 65536 : Nat) : Int) - 65536) := by
  refine congrArg (BitVec.ofInt 32) ?_
  rw [BitVec.toInt_eq_toNat_cond, lowHalf, extractLsb'_toNat_eq_div_mod]
  split <;> split <;> omega

theorem lowHalf_sext32Half (v : Half) : lowHalf (sext32Half v) = v := by
  refine BitVec.eq_of_getLsbD_eq fun k hk => ?_
  rw [lowHalf, sext32Half, BitVec.getLsbD_extractLsb', Nat.zero_add, BitVec.getLsbD_signExtend]
  simp [hk, Nat.lt_trans hk (by decide : 16 < 32)]

/-- The second extension reads the half the first one kept. -/
theorem sext16_idempotent (w : Word) : sext16 (sext16 w) = sext16 w :=
  congrArg sext32Half (lowHalf_sext32Half (lowHalf w))

/-- Settles O46: the low half fixes the result, and the result keeps the low half. -/
theorem sext16SignExtends : Obligations.Sext16SignExtends := by
  refine ⟨decode_encode .sext16, fun s => ?value, fun s => ?twice⟩
  case value => exact (onVal_eq _ s).trans (by rw [sext16_eq_ofInt])
  case twice => exact (thenExec_onVal fun _ => rfl).trans (onVal_congr (sext16_idempotent s.val))

/-! ### The identities (R149) -/

/-- Where two swaps do not commute on a word, the commands do not commute at a state that holds it. -/
theorem thenExec_swap_ne {i j : Instr} (hi : i ∈ swaps) (hj : j ∈ swaps) {w : Word}
    (hw : swapOf j (swapOf i w) ≠ swapOf i (swapOf j w)) :
    ∃ s : State, thenExec (exec i s) j ≠ thenExec (exec j s) i := by
  refine ⟨State.reset.setVal w, fun h => hw ?_⟩
  rw [thenExec_swap hi hj, thenExec_swap hj hi] at h
  exact val_eq_of_onVal_eq h

/-- A zero-extended 2-byte field followed by `SEXT16` is the sign-extended field. -/
theorem thenExec_extract_half_sext16 {s : State} (h : s.off.toNat + 2 ≤ s.plen.toNat ∧ s.plen.toNat ≤ 65536)
    (order : ByteOrder) : thenExec (extract 2 (fun b => zext32Half (asm16 order b)) s) .sext16 =
      extract 2 (fun b => sext32Half (asm16 order b)) s := by
  rw [thenExec_extract (g := sext16) (fun _ => rfl) h]
  simp only [sext16_zext32Half]

/-- `GETIP.2` is the little-endian word with its halves exchanged. -/
theorem thenExec_getwLE_hswap {s : State} (h : s.off.toNat + 4 ≤ s.plen.toNat ∧ s.plen.toNat ≤ 65536) :
    thenExec (exec .getwLE s) .hswap = exec (.getip 2) s := by
  rw [getip_of_lt (by decide), funext (ipOctets_of_two_le (k := 2) (by decide))]
  refine (thenExec_extract (fun _ => rfl) h).trans ?_
  simp only [asm32_le, hswap_octets]

/-- Settles O47: the swaps by their octets, the extract commands by their assembled fields. -/
theorem datapathIdentities : Obligations.DatapathIdentities := by
  refine ⟨fun s i hi => thenExec_swap_self hi s, fun s i hi j hj hij hji => ?commute,
    thenExec_swap_ne (w := 1) (by simp) (by simp) (by decide),
    thenExec_swap_ne (w := 1) (by simp) (by simp) (by decide), thenExec_hswap_bswap32,
    fun s hspan hcap => ?twoBytes, fun s hspan hcap => ?fourBytes⟩
  case commute =>
    rw [thenExec_swap hi hj, thenExec_swap hj hi]
    exact onVal_congr (swapOf_comm hi hj hij hji s.val)
  case twoBytes =>
    obtain ⟨-, -, -, hgeth⟩ := gethReadsTwoBytes
    obtain ⟨-, -, -, hBE⟩ := (hgeth s).1 ⟨hspan, hcap⟩
    have hLE := thenExec_extract_half_sext16 ⟨hspan, hcap⟩ .le
    refine ⟨hBE, ?_, hLE, thenExec_extract_half_sext16 ⟨hspan, hcap⟩ .be⟩
    rw [gethT_eq_gethLE]
    exact hLE
  case fourBytes =>
    obtain ⟨-, -, -, hgetw⟩ := getwReadsFourBytes
    obtain ⟨-, -, -, hBE⟩ := (hgetw s).1 ⟨hspan, hcap⟩
    obtain ⟨-, hgetip⟩ := getipOrdersOctets
    obtain ⟨-, -, hnatural, -⟩ := hgetip s 0
    obtain ⟨-, -, -, hpaired⟩ := hgetip s 2
    exact ⟨hBE, (hnatural (by decide) hspan hcap).2, (hpaired (by decide) (by decide) hspan hcap).2.symm,
      thenExec_getwLE_hswap ⟨hspan, hcap⟩⟩

/-! ### The binary32 reading (R147) -/

/-- The sign bit of a word. -/
def signBit (w : Word) : Bool := decide (w.toNat / 2147483648 = 1)

theorem getLsbD_signBit (w : Word) : w.getLsbD 31 = signBit w := by
  rw [signBit, BitVec.getLsbD, Nat.testBit_eq_decide_div_mod_eq]
  exact congrArg (fun n => decide (n = 1)) (by omega)

/-- The reading by the three numeric fields of the word. -/
theorem f32OfBits_eq (w : Word) : f32OfBits w =
    if w.toNat / 8388608 % 256 = 255 then
      if w.toNat % 8388608 = 0 then .infinity (signBit w) else .nan w
    else if w.toNat / 8388608 % 256 = 0 then .finite (signBit w) (w.toNat % 8388608) (-149)
    else .finite (signBit w) (2 ^ 23 + w.toNat % 8388608) ((w.toNat / 8388608 % 256 : Nat) - 150) := by
  simp only [f32OfBits, getLsbD_signBit, extractLsb'_toNat_eq_div_mod, Nat.pow_zero, Nat.div_one, Nat.reducePow]

theorem value?_finite_signBit (w : Word) (mantissa : Nat) (exponent : Int) :
    (F32.finite (signBit w) mantissa exponent).value? =
      some ((if w.toNat / 2147483648 = 1 then -1 else 1) * (mantissa : ℚ) * (2 : ℚ) ^ exponent) := by
  simp only [F32.value?, signBit, decide_eq_true_eq]

/-- Settles O48, case by case of the exponent field. -/
theorem binary32Reading : Obligations.Binary32Reading := by
  refine ⟨fun w => ?_, ?one⟩
  case one =>
    rw [f32OfBits_eq]
    norm_num [value?_finite_signBit]
  intro sign e f
  refine ⟨fun he hf => ?nan, fun he hf => ?infinity, fun he => ?subnormal, fun he hf => ?zero, fun hlo hhi => ?normal⟩
  case nan => rw [f32OfBits_eq, if_pos he, if_neg hf]
  case infinity => rw [f32OfBits_eq, if_pos he, if_pos hf, signBit]
  case subnormal => rw [f32OfBits_eq, if_neg (by omega), if_pos he, value?_finite_signBit]
  case zero => rw [f32OfBits_eq, if_neg (by omega), if_pos he, show w.toNat % 8388608 = 0 from hf, signBit]
  case normal =>
    rw [f32OfBits_eq, if_neg (by omega), if_neg (by omega), value?_finite_signBit, Nat.cast_add, Nat.cast_pow,
      Nat.cast_ofNat]

/-! ### The reading loses nothing (R146) -/

/-- The word a binary32 datum was read from: a mantissa below `2 ^ 23` is a subnormal's, whose exponent field
is 0. -/
def F32.toBits : F32 → Word
  | .nan bits => bits
  | .infinity negative => BitVec.ofNat 32 (negative.toNat * 2147483648 + 255 * 8388608)
  | .finite negative mantissa exponent =>
    if mantissa < 2 ^ 23 then BitVec.ofNat 32 (negative.toNat * 2147483648 + mantissa)
    else BitVec.ofNat 32 (negative.toNat * 2147483648 + (exponent + 150).toNat * 8388608 + (mantissa - 2 ^ 23))

/-- The word is its three fields put together. -/
theorem eq_ofNat_fields (w : Word) : w = BitVec.ofNat 32
    ((signBit w).toNat * 2147483648 + w.toNat / 8388608 % 256 * 8388608 + w.toNat % 8388608) := by
  have hsign : (signBit w).toNat = w.toNat / 2147483648 := by
    have hbit : w.toNat / 2147483648 = 0 ∨ w.toNat / 2147483648 = 1 := by omega
    rcases hbit with h | h <;> simp [signBit, h]
  have hsum : w.toNat / 2147483648 * 2147483648 + w.toNat / 8388608 % 256 * 8388608 + w.toNat % 8388608 =
      w.toNat := by omega
  rw [hsign, hsum, BitVec.ofNat_toNat, BitVec.setWidth_eq]

theorem toBits_f32OfBits : Function.LeftInverse F32.toBits f32OfBits := by
  intro w
  have hw := eq_ofNat_fields w
  rw [f32OfBits_eq]
  split_ifs with he hf hz
  · simpa only [F32.toBits, he, hf, Nat.add_zero] using hw.symm
  · rfl
  · rw [F32.toBits, if_pos (by omega)]
    simpa only [hz, Nat.zero_mul, Nat.add_zero] using hw.symm
  · rw [F32.toBits, if_neg (by omega), Int.sub_add_cancel, Int.toNat_natCast, Nat.add_sub_cancel_left]
    exact hw.symm

/-- Settles O49: the word is recovered from the reading, and `GETW.T` delivers the word of O41. -/
theorem binary32ReadingLosesNothing : Obligations.Binary32ReadingLosesNothing := by
  refine ⟨fun _ _ h => toBits_f32OfBits.injective h, fun s t hexec hok => ?_⟩
  obtain ⟨-, -, -, hgetw⟩ := getwReadsFourBytes
  by_cases hb : s.off.toNat + 4 ≤ s.plen.toNat ∧ s.plen.toNat ≤ 65536
  · obtain ⟨hT, -⟩ := (hgetw s).1 hb
    cases hexec.symm.trans hT
    rfl
  · obtain ⟨hT, -⟩ := (hgetw s).2 (by omega)
    cases hexec.symm.trans hT
    cases hok

end Sys2Proof.Proofs
end

section
/-! Proofs of the statements of 43_validate.md. -/

namespace Sys2Proof.Proofs

open Sys2Proof.Machine

/-! ### The effect of each validator (R160 to R162)

Both validators fail unless the whole header is in bounds and otherwise give a verdict on a few of its bytes. The
effect is a function of the state, so that two states with the same effect run the validator alike. -/

theorem inb_eq_false_iff (s : State) (o n : Nat) :
    s.inb o n = false ↔ s.plen.toNat < o + n ∨ 65536 < s.plen.toNat := by
  rw [Bool.eq_false_iff, Ne, State.inb_iff]
  omega

/-- Whether the last four bytes of the header are the sync word (R161). -/
def headerSynced (s : State) : Bool := syncMatches Config.m4Sync (s.pktBytes (s.off.toNat + 60) 4)

/-- The CRC of the first eight bytes of the header, with the table found or built (R162). -/
def headerCrc (s : State) : Half :=
  crcSpan (s.ensureTable Config.params).tbl Config.crc16Init (s.pktBytes s.off.toNat 8)

/-- The CRC field embedded in the header (R162). -/
def headerField (s : State) : Half := asm16 .le (s.pktBytes (s.off.toNat + Config.m4CrcOff.val) 2)

/-- What `M4SYNC` does at a state. -/
def syncEffect (s : State) : Effect :=
  if s.inb s.off.toNat 64 then .judges (headerSynced s) else .fails .invalidInput

/-- What `M4CRC` does at a state. -/
def crcEffect (s : State) : Effect :=
  if s.inb s.off.toNat 64 then .checks (headerCrc s) (headerField s) else .fails .invalidInput

theorem exec_m4sync (s : State) : exec .m4sync s = .next ((syncEffect s).apply s) := by
  cases hb : s.inb s.off.toNat 64 with
  | false => rw [syncEffect, hb]; exact m4syncWith_of_not_inb _ s hb
  | true => rw [syncEffect, hb]; exact m4syncWith_of_inb _ s hb

theorem exec_m4crc (s : State) : exec .m4crc s = .next ((crcEffect s).apply s) := by
  cases hb : s.inb s.off.toNat 64 with
  | false => rw [crcEffect, hb]; exact m4crcWith_of_not_inb _ s hb
  | true => rw [crcEffect, hb]; exact m4crcWith_of_inb _ s hb

/-! ### Whole next states -/

section

variable {s : State}

theorem m4sync_outOfBounds (h : s.plen.toNat < s.off.toNat + 64 ∨ 65536 < s.plen.toNat) :
    exec .m4sync s = .next { s with rc := .invalidInput, es := true } := by
  rw [exec_m4sync, syncEffect, (inb_eq_false_iff _ _ _).mpr h]
  exact congrArg _ (s.fail_error rfl)

theorem m4sync_inBounds (h : s.off.toNat + 64 ≤ s.plen.toNat ∧ s.plen.toNat ≤ 65536) :
    exec .m4sync s =
      .next { s with matched := headerSynced s, rc := ResultCode.ofVerdict (headerSynced s) } := by
  rw [exec_m4sync, syncEffect, (s.inb_iff _ _).mpr h]
  exact congrArg _ (s.verdict_eq _)

theorem m4crc_outOfBounds (h : s.plen.toNat < s.off.toNat + 64 ∨ 65536 < s.plen.toNat) :
    exec .m4crc s = .next { s with rc := .invalidInput, es := true } := by
  rw [exec_m4crc, crcEffect, (inb_eq_false_iff _ _ _).mpr h]
  exact congrArg _ (s.fail_error rfl)

theorem m4crc_inBounds (h : s.off.toNat + 64 ≤ s.plen.toNat ∧ s.plen.toNat ≤ 65536) :
    exec .m4crc s = .next { s with
      tbl := if s.tv then s.tbl else crcTable Config.crc16Poly, tv := true, crc := headerCrc s,
      val := zext32Half (headerField s), matched := headerCrc s == headerField s,
      rc := ResultCode.ofVerdict (headerCrc s == headerField s) } := by
  rw [exec_m4crc, crcEffect, (s.inb_iff _ _).mpr h]
  exact congrArg _ (s.ensureTable_setCrc_setVal_verdict _ _ _ _)

end

/-! ### The sync word (R161) -/

theorem headerSynced_iff (s : State) : headerSynced s = true ↔
    s.pktByte (s.off.toNat + 60) = Config.m4Sync.b0 ∧ s.pktByte (s.off.toNat + 61) = Config.m4Sync.b1 ∧
      s.pktByte (s.off.toNat + 62) = Config.m4Sync.b2 ∧ s.pktByte (s.off.toNat + 63) = Config.m4Sync.b3 := by
  simp [headerSynced, syncMatches_iff, State.byteAt_pktBytes, Nat.add_assoc]

/-- Settles O50, by the verdict on the four sync bytes. -/
theorem m4syncComparesSyncWord : Obligations.M4syncComparesSyncWord := by
  refine ⟨decode_encode .m4sync, fun s => ⟨m4sync_outOfBounds, fun hspan hcap heq => ?_,
    fun hspan hcap hne => ?_⟩⟩
  · rw [m4sync_inBounds ⟨hspan, hcap⟩, (headerSynced_iff s).mpr heq]
    rfl
  · rw [m4sync_inBounds ⟨hspan, hcap⟩, Bool.eq_false_of_not_eq_true (mt (headerSynced_iff s).mp hne)]
    rfl

/-! ### The header CRC (R162) -/

theorem headerCrc_eq_foldl (s : State) : headerCrc s =
    ((List.range 8).map fun k => s.pktByte (s.off.toNat + k)).foldl
      (crcStep (if s.tv then s.tbl else crcTable Config.crc16Poly)) Config.crc16Init := by
  rw [headerCrc, State.ensureTable_tbl]
  rfl

theorem headerField_toNat (s : State) : (headerField s).toNat =
    (s.pktByte (s.off.toNat + Config.m4CrcOff.val + 1)).toNat * 256 +
      (s.pktByte (s.off.toNat + Config.m4CrcOff.val)).toNat := by
  rw [headerField, asm16, half_of_bytes, toNat_append_eq_add, s.byteAt_pktBytes _ _ _ Nat.one_lt_two,
    s.byteAt_pktBytes _ _ _ Nat.two_pos, Nat.mul_comm]
  rfl

theorem ofVerdict_decide (p : Prop) [Decidable p] :
    ResultCode.ofVerdict (decide p) = if p then .ok else .corrupt := by
  by_cases hp : p <;> simp [ResultCode.ofVerdict, hp]

/-- Settles O51: the two values `M4CRC` compares, the field as a number. -/
theorem m4crcComparesHeaderCrc : Obligations.M4crcComparesHeaderCrc := by
  refine ⟨decode_encode .m4crc, fun s => ?_⟩
  intro table bytes c f
  refine ⟨m4crc_outOfBounds, fun hspan hcap => ?_⟩
  have hcrc : headerCrc s = c := headerCrc_eq_foldl s
  have hfield : (headerField s).toNat = f := headerField_toNat s
  have hval : zext32Half (headerField s) = BitVec.ofNat 32 f := by
    rw [← hfield, BitVec.ofNat_toNat, zext32Half]
  have hequal : (headerCrc s == headerField s) = decide (c.toNat = f) := by
    rw [← hfield, ← hcrc, beq_eq_decide, decide_eq_decide, BitVec.toNat_inj]
  rw [m4crc_inBounds ⟨hspan, hcap⟩, hval, hequal, ofVerdict_decide, hcrc]

theorem lowHalf_zext32Half (v : Half) : lowHalf (zext32Half v) = v := by
  refine BitVec.eq_of_toNat_eq ?_
  rw [lowHalf, zext32Half, extractLsb'_toNat_eq_div_mod, BitVec.toNat_setWidth_of_le (by decide)]
  omega

theorem exec_crccmp (s : State) : exec .crccmp s = .next { s with
    matched := s.crc == lowHalf s.val, rc := ResultCode.ofVerdict (s.crc == lowHalf s.val) } :=
  congrArg Host.Outcome.next (s.verdict_eq _)

/-- `CRC16` with `LEN = 8` leaves the CRC that `M4CRC` computes. -/
theorem crc16_of_len_eight {s : State} (h : s.inb s.off.toNat 8 = true) :
    exec .crc16 { s with len := 8 } = .next { s with
      len := 8, tbl := if s.tv then s.tbl else crcTable Config.crc16Poly, tv := true, crc := headerCrc s,
      rc := .ok } := by
  refine (crc16With_of_inb _ { s with len := 8 } h).trans ?_
  rw [State.ensureTable_setCrc_done, State.ensureTable_tbl, headerCrc, State.ensureTable_tbl]
  rfl

/-- Settles O52: `CRC16` leaves `headerCrc`, `GETH.LE` at the field delivers `headerField`, and `CRCCMP` compares
the two. -/
theorem m4crcEqualsSequence : Obligations.M4crcEqualsSequence := by
  intro s t hspan hcap ht
  rw [m4crc_inBounds ⟨hspan, hcap⟩] at ht
  cases ht
  have hoff : (BitVec.ofNat 16 (s.off.toNat + Config.m4CrcOff.val)).toNat =
      s.off.toNat + Config.m4CrcOff.val := by
    rw [BitVec.toNat_ofNat]
    omega
  refine ⟨_, _, crc16_of_len_eight ((s.inb_iff _ _).mpr ⟨by omega, hcap⟩),
    extract_inBounds ⟨?fieldSpan, hcap⟩, ?verdict⟩
  case fieldSpan =>
    simp only [hoff]
    omega
  case verdict =>
    simp only [exec_crccmp, lowHalf_zext32Half, hoff]
    rfl

/-! ### The bytes that decide (R161, R162) -/

theorem pktBytes_congr {s s' : State} {a n : Nat} (h : ∀ j < n, s'.pktByte (a + j) = s.pktByte (a + j)) :
    s'.pktBytes a n = s.pktBytes a n :=
  List.map_congr_left fun j hj => h j (List.mem_range.mp hj)

/-- A command whose effect another packet does not change ends alike but for the packet. -/
theorem exec_with_pkt {i : Instr} {effect : State → Effect}
    (hexec : ∀ s, exec i s = .next ((effect s).apply s)) {s : State} {m : Memory}
    (h : effect { s with pkt := m } = effect s) :
    exec i { s with pkt := m } = mapNext (fun t => { t with pkt := m }) (exec i s) := by
  have happly := (effect s).apply_with_pkt_tbo s m s.tbo
  rw [hexec, hexec, h, happly]
  simp [mapNext]

theorem syncEffect_with_pkt {s : State} {m : Memory} (h : ∀ j < 4,
    ({ s with pkt := m } : State).pktByte (s.off.toNat + 60 + j) = s.pktByte (s.off.toNat + 60 + j)) :
    syncEffect { s with pkt := m } = syncEffect s := by
  have hsynced : headerSynced { s with pkt := m } = headerSynced s := by
    rw [headerSynced, pktBytes_congr h, headerSynced]
  rw [syncEffect, hsynced]
  rfl

theorem crcEffect_with_pkt {s : State} {m : Memory}
    (h : ∀ j : Nat, j < 8 ∨ j = Config.m4CrcOff.val ∨ j = Config.m4CrcOff.val + 1 →
      ({ s with pkt := m } : State).pktByte (s.off.toNat + j) = s.pktByte (s.off.toNat + j)) :
    crcEffect { s with pkt := m } = crcEffect s := by
  have hcrc : headerCrc { s with pkt := m } = headerCrc s := by
    rw [headerCrc, pktBytes_congr fun j hj => h j (.inl hj), headerCrc]
    simp only [State.ensureTable_tbl]
  have hfield : headerField { s with pkt := m } = headerField s := by
    rw [headerField, headerField, pktBytes_congr fun j hj => ?_]
    rw [Nat.add_assoc]
    exact h _ (by omega)
  rw [crcEffect, hcrc, hfield]
  rfl

/-- Settles O53: the effect of each validator is the same, in bounds and out of bounds. -/
theorem verdictsDependOnTheirBytesOnly : Obligations.VerdictsDependOnTheirBytesOnly := fun _ _ =>
  ⟨fun h => exec_with_pkt exec_m4sync (syncEffect_with_pkt h),
    fun h => exec_with_pkt exec_m4crc (crcEffect_with_pkt h)⟩

end Sys2Proof.Proofs
end

section
/-! Proofs of the statements of 44_system.md. -/

namespace Sys2Proof.Proofs

open Sys2Proof.Machine

/-- `CLRERR` is the only command that brings `ES` down (10_state.md section 1). -/
theorem exec_keeps_es {i : Instr} {s t : State} (hi : i ≠ .clrerr) (h : exec i s = .next t) (hes : s.es = true) :
    t.es = true := by
  obtain ⟨-, -, -, -, hsticky⟩ := commandWriteSets i s t h
  rw [hsticky hi, hes, Bool.true_or]

theorem exec_clrerr (s : State) : exec .clrerr s = .next { s with es := false, rc := .ok } :=
  congrArg Host.Outcome.next s.clearSticky_done

/-- Where no error is recorded `CLRERR` writes `RC` alone. -/
theorem exec_clrerr_of_no_error {s : State} (hes : s.es = false) : exec .clrerr s = .next { s with rc := .ok } := by
  rw [exec_clrerr, ← hes]

/-- An illegal word leaves `ES = 1`, whatever it was (30_encoding.md R77). -/
theorem command_illegal_sets_es (s : State) {w : Word} {y : Illegal} (h : decode w = .illegal y) :
    ∃ u, s.command w = .next u ∧ u.es = true :=
  ⟨_, s.command_of_illegal h, by rw [State.fail_es, ResultCode.isError, Bool.or_true]⟩

/-- `GETIP` with one of the selectors 4 to 15 fails on its selector (41_extract.md R131). -/
theorem exec_getip_of_unknown {k : BitVec 4} (hk : 4 ≤ k.toNat) (s : State) :
    exec (.getip k) s = .next { s with rc := .unknownSelector, es := true } := by
  obtain ⟨-, hcases⟩ := getipOrdersOctets
  obtain ⟨hunknown, -⟩ := hcases s k
  exact hunknown hk

/-- Settles O38, clause by clause; in the example `GETIP.9` fails on its selector and `CLRERR` undoes that. -/
theorem clrerrClearsSticky : Obligations.ClrerrClearsSticky := by
  refine ⟨decode_encode .clrerr, exec_clrerr, fun _ => exec_clrerr_of_no_error, fun _ _ _ => exec_keeps_es,
    fun _ t _ _ _ => command_illegal_sets_es t, fun t u ht hu => ?getip9FromReset⟩
  case getip9FromReset =>
    rw [exec_getip_of_unknown (by decide)] at ht
    cases ht
    rw [exec_clrerr] at hu
    cases hu
    exact ⟨rfl, rfl⟩

end Sys2Proof.Proofs
end

section
/-! Proofs of the statements of 60_exceptions.md. -/

namespace Sys2Proof.Proofs

open Sys2Proof.Machine

/-! ### The causes of failure in their order (R203)

Of the causes of R203 a command word meets an illegal encoding first, `command_next`. A command then checks its
selector, then its span or table index, and past these two checks it does not fail. -/

/-- Cause (2) precedes cause (3): an unknown selector is reported whatever the bounds. -/
theorem exec_of_selectorUnknown {i : Instr} (h : selectorUnknown i = true) (s : State) :
    exec i s = .next { s with rc := .unknownSelector, es := true } := by
  cases i with
  | getip k => exact exec_getip_of_unknown (of_decide_eq_true h) s
  | _ => cases h

/-- Cause (3), the bounds, alone decides whether `i` fails at `s`. -/
structure BoundsDecide (i : Instr) (s : State) : Prop where
  refused : spanRefused i s → exec i s = .next { s with rc := .invalidInput, es := true }
  accepted : ¬ spanRefused i s → ∃ t, exec i s = .next t ∧ t.rc.isError = false

section

variable {i : Instr} {s : State}

/-- A command with a span fails exactly when the bounds rule refuses the span. -/
theorem boundsDecide_of_span (hi : i ≠ .tblrd) (hpos : 0 < spanLength s i)
    (hout : s.plen.toNat < s.off.toNat + spanLength s i ∨ 65536 < s.plen.toNat →
      exec i s = .next { s with rc := .invalidInput, es := true })
    (hin : s.off.toNat + spanLength s i ≤ s.plen.toNat ∧ s.plen.toNat ≤ 65536 →
      ∃ t, exec i s = .next t ∧ t.rc.isError = false) : BoundsDecide i s where
  refused h := by
    rcases h with ⟨-, hspan⟩ | ⟨rfl, -⟩
    · exact hout (by omega)
    · exact absurd rfl hi
  accepted h := hin (by_contra fun hspan => h (.inl ⟨hpos, hspan⟩))

/-- A command without a span and without an index cannot fail. -/
theorem boundsDecide_of_no_span (hi : i ≠ .tblrd) (hzero : spanLength s i = 0)
    (hok : ∃ t, exec i s = .next t ∧ t.rc.isError = false) : BoundsDecide i s where
  refused h := by
    rcases h with ⟨hpos, -⟩ | ⟨rfl, -⟩
    · omega
    · exact absurd rfl hi
  accepted _ := hok

theorem extract_boundsDecide {n : Nat} {f : List Byte → Word} (hexec : exec i s = extract n f s)
    (hi : i ≠ .tblrd) (hlen : spanLength s i = n) (hn : 0 < n) : BoundsDecide i s := by
  subst hlen
  exact boundsDecide_of_span hi hn (fun hout => hexec.trans (extract_outOfBounds hout))
    fun hin => ⟨_, hexec.trans (extract_inBounds hin), rfl⟩

end

/-- `CRC16` has a span when `LEN` is not 0 (40_crc.md R106). -/
theorem crc16_boundsDecide (s : State) : BoundsDecide .crc16 s := by
  obtain ⟨-, hcases, -⟩ := crc16FoldsSpan
  obtain ⟨hrefused, hinBounds, hempty⟩ := hcases s
  rcases Nat.eq_zero_or_pos s.len.toNat with hzero | hpos
  · exact boundsDecide_of_no_span nofun hzero ⟨_, hempty hzero, rfl⟩
  · exact boundsDecide_of_span nofun hpos
      (fun hout => hrefused hpos fun ⟨hspan, hcap⟩ => hout.elim hspan.not_gt hcap.not_gt)
      fun ⟨hspan, hcap⟩ => ⟨_, hinBounds hpos hspan hcap, rfl⟩

/-- The bound of `TBLRD` is that of its index (40_crc.md R108). -/
theorem tblrd_boundsDecide (s : State) : BoundsDecide .tblrd s := by
  obtain ⟨-, hrefused, hentry, -⟩ := tblrdReadsEntry
  refine ⟨fun h => ?_, fun h => ?_⟩
  · rcases h with ⟨hpos, -⟩ | ⟨-, hindex⟩
    · exact absurd hpos (Nat.lt_irrefl 0)
    · exact hrefused s hindex
  · obtain ⟨_, hexec, -⟩ := hentry s (Nat.le_of_not_lt fun hindex => h (.inr ⟨rfl, hindex⟩))
    exact ⟨_, hexec, rfl⟩

/-- Past the selector check the bounds decide, for every command. -/
theorem boundsDecide {i : Instr} (hsel : selectorUnknown i = false) (s : State) : BoundsDecide i s := by
  cases i with
  | crc16 => exact crc16_boundsDecide s
  | tblrd => exact tblrd_boundsDecide s
  | getb | gethT | gethLE | gethBE | getwT | getwLE | getwBE | getshT | getshLE | getshBE | getdio =>
    exact extract_boundsDecide rfl nofun rfl (by decide)
  | getip k =>
    have hk : ¬ 4 ≤ k.toNat := of_decide_eq_false hsel
    exact extract_boundsDecide (getip_of_lt (Nat.lt_of_not_le hk) s) nofun rfl (by decide)
  | m4sync =>
    exact boundsDecide_of_span nofun (by decide : 0 < 64) m4sync_outOfBounds
      fun hin => ⟨_, m4sync_inBounds hin, ofVerdict_isError _⟩
  | m4crc =>
    exact boundsDecide_of_span nofun (by decide : 0 < 64) m4crc_outOfBounds
      fun hin => ⟨_, m4crc_inBounds hin, ofVerdict_isError _⟩
  | crccmp => exact boundsDecide_of_no_span nofun rfl ⟨_, exec_crccmp s, ofVerdict_isError _⟩
  | tinit | clrerr | bswap16 | bswap32 | hswap | pswap | sext16 =>
    exact boundsDecide_of_no_span nofun rfl ⟨_, rfl, rfl⟩

theorem isError_eq_false_of_accepted {i : Instr} {s t : State} (h : exec i s = .next t)
    (hsel : selectorUnknown i = false) (hspan : ¬ spanRefused i s) : t.rc.isError = false := by
  obtain ⟨u, hu, hok⟩ := (boundsDecide hsel s).accepted hspan
  rw [h] at hu
  cases hu
  exact hok

/-! ### What a failure changes (R204) -/

/-- A command fails by one of its two checks, and neither looks at a packet byte. -/
theorem exec_failed {i : Instr} {s t : State} (h : exec i s = .next t) (herr : t.rc.isError = true) :
    ∃ code, ∀ m : Memory,
      exec i { s with pkt := m } = .next { s with pkt := m, rc := code, es := true } := by
  cases hsel : selectorUnknown i with
  | true => exact ⟨.unknownSelector, fun m => exec_of_selectorUnknown hsel _⟩
  | false =>
    have hspan : spanRefused i s := by_contra fun hspan =>
      absurd herr (ne_true_of_eq_false (isError_eq_false_of_accepted h hsel hspan))
    exact ⟨.invalidInput, fun m => (boundsDecide hsel { s with pkt := m }).refused hspan⟩

/-- Settles O21: the failure at the state's own packet is the failure at every other one. -/
theorem failureChangesOnlyRcAndEs : Obligations.FailureChangesOnlyRcAndEs := by
  refine ⟨fun i s t h herr => ?failing, fun s w y hd => ?illegal⟩
  case failing =>
    obtain ⟨code, hfails⟩ := exec_failed h herr
    obtain rfl : t = { s with rc := code, es := true } := Host.Outcome.next.inj (h.symm.trans (hfails s.pkt))
    exact ⟨rfl, hfails, fun j => exec_completes j _⟩
  case illegal => rw [s.command_of_illegal hd, s.fail_error rfl]

/-! ### `CORRUPT` is a verdict (R208) -/

/-- Only the comparing commands end with `CORRUPT`. -/
theorem compares_of_corrupt {i : Instr} {s t : State} (h : exec i s = .next t) (hrc : t.rc = .corrupt) :
    compares i = true := by
  obtain ⟨e, ⟨hof, -⟩, rfl⟩ := exec_next h
  cases e with
  | fails code =>
    cases (hrc : code = .corrupt)
    cases (hof : ResultCode.corrupt.isError = true)
  | delivers v | builds | folds c | looksUp v | clears => cases hrc
  | judges equal => rcases hof with rfl | rfl <;> rfl
  | checks c f => cases hof; rfl

/-- Settles O24: `MATCH` by the rule of the comparing commands, `ES` by that of every command but `CLRERR`. -/
theorem corruptIsNotAnError : Obligations.CorruptIsNotAnError := by
  intro i s t h hrc
  have hcmp := compares_of_corrupt h hrc
  have herr : t.rc.isError = false := by rw [hrc]; rfl
  obtain ⟨hmatch, -⟩ := matchFlagRule
  obtain ⟨-, hverdict⟩ := hmatch i s t h
  obtain ⟨-, -, -, -, hsticky⟩ := commandWriteSets i s t h
  have hne : i ≠ .clrerr := by rintro rfl; cases hcmp
  exact ⟨hcmp, (hverdict hcmp herr).2.mpr hrc, by rw [hsticky hne, herr, Bool.or_false]⟩

/-! ### The code reported (R203) -/

/-- A command that neither fails nor compares reports `OK`. -/
theorem rc_ok_of_not_compares {i : Instr} {s t : State} (h : exec i s = .next t) (hcmp : compares i = false)
    (herr : t.rc.isError = false) : t.rc = .ok := by
  cases hrc : t.rc with
  | ok => rfl
  | corrupt => exact absurd (compares_of_corrupt h hrc) (ne_true_of_eq_false hcmp)
  | invalidInput | unknownSelector | illegalCmd => rw [hrc] at herr; cases herr

/-- A comparing command that does not fail reports what it writes to `MATCH`. -/
theorem rc_eq_of_compares {i : Instr} {s t : State} (h : exec i s = .next t) (hcmp : compares i = true)
    (herr : t.rc.isError = false) : t.rc = if t.matched then .ok else .corrupt := by
  obtain ⟨hmatch, -⟩ := matchFlagRule
  obtain ⟨-, hverdict⟩ := hmatch i s t h
  obtain ⟨hok, hcorrupt⟩ := hverdict hcmp herr
  cases hm : t.matched with
  | true => exact hok.mp hm
  | false => exact hcorrupt.mp hm

/-- Settles O22: the checks in their order, and past them the verdict or `OK`. -/
theorem causeOrder : Obligations.CauseOrder := by
  refine ⟨fun s t w y hd h => ?illegal, fun i s t h =>
    ⟨fun hsel => ?selector, fun hsel hspan => ?bounds, fun hsel hspan hcmp => ?verdict, fun hsel hspan hcmp => ?ok⟩⟩
  case illegal => rw [s.command_of_illegal hd] at h; cases h; rfl
  case selector => rw [exec_of_selectorUnknown hsel] at h; cases h; rfl
  case bounds => rw [(boundsDecide hsel s).refused hspan] at h; cases h; rfl
  case verdict => exact rc_eq_of_compares h hcmp (isError_eq_false_of_accepted h hsel hspan)
  case ok => exact rc_ok_of_not_compares h hcmp (isError_eq_false_of_accepted h hsel hspan)

/-! ### What clears the sticky error (R205) -/

/-- The transactions that bring `ES` down: `HReset` and the two ways to deliver `CLRERR`. -/
def ClearsError (tr : Transaction) : Prop :=
  tr = .reset ∨ tr = issue .clrerr ∨ tr = .bus (.write 0x10000#17 .word (encode .clrerr))

theorem command_keeps_es_or_clrerr {s t : State} {w : Word} (h : s.command w = .next t) (hes : s.es = true) :
    t.es = true ∨ w = encode .clrerr := by
  rcases command_next h with ⟨i, hd, hexec⟩ | ⟨y, -, rfl⟩
  · rcases eq_or_ne i .clrerr with rfl | hi
    · exact .inr (encode_of_decode hd).symm
    · exact .inl (exec_keeps_es hi hexec hes)
  · exact .inl (by rw [State.fail_es, hes, Bool.true_or])

theorem writeReg_keeps_es_or_clrerr {s t : State} {r : Reg} {w : Word} (h : s.writeReg r w = .next t)
    (hes : s.es = true) : t.es = true ∨ r = .cmd ∧ w = encode .clrerr := by
  cases r with
  | cmd => exact (command_keeps_es_or_clrerr h hes).imp_right fun hw => ⟨rfl, hw⟩
  | status | cfg | off | len | plen | val | crc => cases h; exact .inl hes

@[simp] theorem Reg.number_ofNumber (n : BitVec 3) : (Reg.ofNumber n).number = n := by
  revert n
  decide

/-- The converse of `busTarget_own`: only its own address reaches a register as aligned. -/
theorem toNat_of_busTarget_register {addr : Count} {r : Reg} (h : busTarget addr = .register r true) :
    addr.toNat = 0x10000 + 4 * r.number.toNat := by
  rcases Nat.lt_or_ge addr.toNat 0x10000 with hlo | hlo
  · rw [busTarget_packet hlo] at h
    cases h
  rcases Nat.lt_or_ge addr.toNat 0x10020 with hhi | hhi
  · rw [busTarget_register hlo hhi] at h
    obtain ⟨rfl, haligned⟩ := BusTarget.register.inj h
    have hdiv := beq_iff_eq.mp haligned
    rw [Reg.number_ofNumber, BitVec.extractLsb'_toNat, Nat.shiftRight_eq_div_pow]
    omega
  · rw [busTarget_reserved hhi] at h
    cases h

/-- Everything a flat bus write can do, with the register it reaches (20_memory.md R59). -/
theorem busWrite_next {s t : State} {addr : Count} {width : BusWidth} {data : Word}
    (h : s.busAccess (.write addr width data) = .next t) :
    (∃ a v, t = s.memWrite a v) ∨ t = s ∨
      ∃ r, busTarget addr = .register r true ∧ width = .word ∧ s.writeReg r data = .next t := by
  simp only [State.busAccess] at h
  split at h
  · cases h; exact .inl ⟨_, _, rfl⟩
  · next r htarget => exact .inr (.inr ⟨r, htarget, rfl, h⟩)
  · cases h; exact .inr (.inl rfl)
  · cases h

/-- A flat bus read leaves an answer and nothing else. -/
theorem busRead_next {s t : State} {addr : Count} {width : BusWidth}
    (h : s.busAccess (.read addr width) = .next t) : ∃ r, t = s.respond r := by
  simp only [State.busAccess] at h
  split at h
  · cases h; exact ⟨_, rfl⟩
  · cases h; exact ⟨_, rfl⟩
  · cases h; exact ⟨_, rfl⟩
  · cases h

theorem busAccess_keeps_es_or_clrerr {s t : State} {acc : BusAccess} (h : s.busAccess acc = .next t)
    (hes : s.es = true) : t.es = true ∨ acc = .write 0x10000#17 .word (encode .clrerr) := by
  cases acc with
  | read addr width =>
    obtain ⟨r, rfl⟩ := busRead_next h
    exact .inl hes
  | write addr width data =>
    rcases busWrite_next h with ⟨a, v, rfl⟩ | rfl | ⟨r, htarget, rfl, hwrite⟩
    · exact .inl hes
    · exact .inl hes
    · rcases writeReg_keeps_es_or_clrerr hwrite hes with hkept | ⟨rfl, rfl⟩
      · exact .inl hkept
      · have haddr : addr = 0x10000#17 := BitVec.eq_of_toNat_eq (toNat_of_busTarget_register htarget)
        exact .inr (by rw [haddr])

theorem serve_keeps_es_or_clears {s t : State} {tr : Transaction} (h : s.serve tr = .next t) (hes : s.es = true) :
    t.es = true ∨ ClearsError tr := by
  cases tr with
  | reset => exact .inr (.inl rfl)
  | pktWrite a v | pktRead a | regRead r => cases h; exact .inl hes
  | regWrite r w =>
    rcases writeReg_keeps_es_or_clrerr h hes with hkept | ⟨rfl, rfl⟩
    · exact .inl hkept
    · exact .inr (.inr (.inl rfl))
  | bus acc => exact (busAccess_keeps_es_or_clrerr h hes).imp_right fun hacc => .inr (.inr (congrArg _ hacc))

/-- Settles O23: a step without a transaction changes nothing, and one that takes `ES` to 0 serves a `ClearsError`. -/
theorem errorSticksUntilCleared : Obligations.ErrorSticksUntilCleared := by
  intro s t h hes hcleared
  cases hport : s.port with
  | nil =>
    rw [step_nil s hport] at h
    cases h
    exact absurd hes (ne_true_of_eq_false hcleared)
  | cons tr rest =>
    rw [step_cons s hport] at h
    refine ⟨rest, ?_⟩
    rcases serve_keeps_es_or_clears h hes with hkept | rfl | rfl | rfl
    · exact absurd hkept (ne_true_of_eq_false hcleared)
    · exact .inl rfl
    · exact .inr (.inl rfl)
    · exact .inr (.inr rfl)

end Sys2Proof.Proofs
end

section
/-! Proofs of the statements of 70_reset_and_hazards.md. -/

namespace Sys2Proof.Proofs

open Sys2Proof.Machine

/-! ### Only reset clears `TV` (R221)

`TV` is followed from an effect up to a step. That the entries of a built table stay needs no such chain: the
invariant says what a built table holds, before and after. -/

theorem Effect.keeps_tv (e : Effect) {s : State} (htv : s.tv = true) : (e.apply s).tv = true := by
  cases e with
  | fails code | delivers v | clears | judges equal => exact htv
  | builds => rfl
  | folds c | looksUp v | checks c f => simp [Effect.apply]

theorem exec_keeps_tv {i : Instr} {s t : State} (h : exec i s = .next t) (htv : s.tv = true) : t.tv = true := by
  obtain ⟨e, -, rfl⟩ := exec_next h
  exact e.keeps_tv htv

theorem command_keeps_tv {s t : State} {w : Word} (h : s.command w = .next t) (htv : s.tv = true) :
    t.tv = true := by
  rcases command_next h with ⟨i, -, hexec⟩ | ⟨y, -, rfl⟩
  · exact exec_keeps_tv hexec htv
  · exact htv

theorem writeReg_keeps_tv {s t : State} {r : Reg} {w : Word} (h : s.writeReg r w = .next t) (htv : s.tv = true) :
    t.tv = true := by
  cases r with
  | cmd => exact command_keeps_tv h htv
  | status | cfg | off | len | plen | val | crc => cases h; exact htv

theorem busAccess_keeps_tv {s t : State} {acc : BusAccess} (h : s.busAccess acc = .next t) (htv : s.tv = true) :
    t.tv = true := by
  rcases busAccess_next h with ⟨r, rfl⟩ | ⟨a, v, rfl⟩ | ⟨r, w, hw⟩ | rfl
  · exact htv
  · exact htv
  · exact writeReg_keeps_tv hw htv
  · exact htv

theorem serve_keeps_tv {s t : State} {tr : Transaction} (h : s.serve tr = .next t) (hreset : tr ≠ .reset)
    (htv : s.tv = true) : t.tv = true := by
  cases tr with
  | reset => exact absurd rfl hreset
  | pktWrite a v | pktRead a | regRead r => cases h; exact htv
  | regWrite r w => exact writeReg_keeps_tv h htv
  | bus acc => exact busAccess_keeps_tv h htv

theorem step_keeps_tv {s t : State} (h : step s = .next t) (hreset : ∀ rest, s.port ≠ .reset :: rest)
    (htv : s.tv = true) : t.tv = true := by
  cases hport : s.port with
  | nil => rw [step_nil s hport] at h; cases h; exact htv
  | cons tr rest =>
    rw [step_cons s hport] at h
    exact serve_keeps_tv h (fun htr => hreset rest (by rw [hport, htr])) htv

/-- Settles O14: the invariant holds before and after, and fixes `TBO` and the entries of a built table. -/
theorem tableIsNeverUnbuilt : Obligations.TableIsNeverUnbuilt := by
  intro s t hs h
  have ht : t.Inv := stepKeepsInv s t hs h
  refine ⟨fun hreset htv => ?_, ht.strapped.trans hs.strapped.symm⟩
  have htv' : t.tv = true := step_keeps_tv h hreset htv
  exact ⟨htv', (ht.tableBuilt htv').trans (hs.tableBuilt htv).symm⟩

/-! ### Reset (R220) and completion (R231) -/

/-- Settles O12: a step serves `HReset` by `State.hReset`, and a command keeps what a reset would clear. -/
theorem hResetRestoresState : Obligations.HResetRestoresState := by
  refine ⟨fun s rest hport => ?_, fun i s t h => ?_⟩
  · exact ⟨_, step_cons s hport, rfl, rfl, rfl, rfl, rfl, rfl, rfl, rfl, rfl, rfl, rfl, rfl⟩
  · obtain ⟨-, -, hplen, hoff, hlen, -⟩ := commandsKeepOperandsAndPacket i s t h
    exact ⟨exec_keeps_tv h, hplen, hoff, hlen⟩

/-- Settles O18: every command has an effect in every state. -/
theorem commandsAlwaysComplete : Obligations.CommandsAlwaysComplete :=
  exec_completes

end Sys2Proof.Proofs
end
